-- ==== Sys2Proof/Word.lean ====
section
/-! DEFINITION. The byte type and the plainest arithmetic of the part (00_scope section 4.3): clamping and saturating.
Quantities of the part are integers in stated units (00_scope section 4.1) and are held as `Nat` or `Int`; only bytes on a wire or
in the memory, and check registers, are bit vectors. -/

namespace Sys2Proof

/-- One byte, as characters on the station line and bytes of the configuration memory are. -/
abbrev Byte := BitVec 8

/-- "Clamped to a..b" (00_scope section 4.3), on naturals. -/
def clampNat (lo hi v : Nat) : Nat := if v < lo then lo else if hi < v then hi else v

/-- "Clamped to a..b" (00_scope section 4.3), on integers. -/
def clampInt (lo hi v : Int) : Int := if v < lo then lo else if hi < v then hi else v

/-- One more, "saturating at n" (00_scope section 4.3). -/
def satSucc (n v : Nat) : Nat := min n (v + 1)

end Sys2Proof
end

