-- ==== Sys2Proof/Syntax.lean ====
section
/-! DEFINITION. The commands of the part: one constructor of `Instr` per row of spec/opcode_table.json, with the operands the rules
of the row need (the table lists none: log entry 7). -/

namespace Sys2Proof

/-- The direction of a current, a capability or a fast trip (R22, R96, R181). -/
inductive Direction where
  | discharge | charge
  deriving DecidableEq, Repr

/-- The two gas loops (R23) and the two smoke loops (R65). -/
inductive DetectorLoop where
  | a | b
  deriving DecidableEq, Repr

/-- The two gas levels of R24. -/
inductive GasLevel where
  | l1 | l2
  deriving DecidableEq, Repr

/-- The three PWM drives of R53 and R54. -/
inductive PwmDrive where
  | pump | fan1 | fan2
  deriving DecidableEq, Repr

/-- The settled contact inputs of R66 and R195. "Active" of the door is open. -/
inductive Contact where
  | callPoint | door | hold | discharged | keySwitch
  deriving DecidableEq, Repr

/-- The three status lamps of R196. -/
inductive Lamp where
  | run | alert | fault
  deriving DecidableEq, Repr

/-- The grid state in a converter answer (section 9.2). -/
inductive GridState where
  | healthy | absent | outOfWindow
  deriving DecidableEq, Repr

/-- The receive faults of R121 that the row RECEIVE_FAULT names. -/
inductive ReceiveFault where
  | trailing | badStopBit | badPreamble | overLong
  deriving DecidableEq, Repr

/-- A module report as the chain delivers it (section 1.1.1). `checkGood` says whether its CRC is good (log entry 7). -/
structure ModuleReport where
  n : Nat
  roundEcho : Nat
  cells : List Nat
  total : Nat
  checkIndex : Nat
  checkReading : Nat
  temps : List Int
  checkGood : Bool
  deriving DecidableEq, Repr

/-- A converter answer as the link delivers it (section 9.2). `checkGood` says whether its CRC is good (log entry 7). -/
structure ConverterAnswer where
  checkGood : Bool
  seqEcho : Nat
  grid : GridState
  dcLink : Nat
  power : Int
  ready : Bool
  fault : Bool
  deriving DecidableEq, Repr

/-- The 68 commands of spec/opcode_table.json, in the table's order. -/
inductive Instr where
  | powerOn (straps : BitVec 5)
  | resetInput
  | resetRelease (straps : BitVec 5)
  | loaderFinish (memoryAcknowledges : Bool)
  | uptimeSecond
  | scanRoundStart
  | moduleRequestSent
  | moduleReport (r : ModuleReport)
  | answerWindowExpiry (n : Nat)
  | currentConversion (current : Int)
  | calibrationAtFull
  | gasLoopConversion (currentA currentB : Nat)
  | temperatureConversion (inlet outlet ambient : Int)
  | fastTripComparator (d : Direction) (current : Int)
  | gasLevelComparator (loop : DetectorLoop) (lvl : GasLevel) (ppm : Nat)
  | loopFaultComparator (loop : DetectorLoop) (current : Nat)
  | balanceEvaluation
  | minimumOnTimerExpiry
  | minimumOffTimerExpiry
  | runFeedbackChange (active : Bool)
  | compressorStartMonitorExpiry
  | tachPulse (d : PwmDrive)
  | tachWindowEnd
  | retryTimerExpiry
  | pwmPeriodStart
  | smokeLoopBandChange (loop : DetectorLoop) (milliVolt : Nat)
  | smokeLoopPersistenceExpiry (loop : DetectorLoop)
  | contactTerminalChange (c : Contact) (active : Bool)
  | contactInputSettled (c : Contact)
  | heatRiseSample
  | hazardFirstEvaluation
  | escalationTimerExpiry
  | fallBackTimerExpiry
  | quietTimerExpiry
  | countdownEnd
  | dischargeConfirmationExpiry
  | lockoutWriteStart
  | lockoutWriteCompletion (acknowledged : Bool) (held : List Byte)
  | lockoutRetryExpiry
  | maintenanceClear
  | setpointPeriod
  | converterAnswer (a : ConverterAnswer)
  | gridHealthyDelayReached
  | prechargeTimeout
  | readyTimeout
  | rideThroughExpired
  | disconnectWaitExpiry
  | visibilityTimerExpiry
  | retryDelayExpiry
  | receiverIdleReached
  | receiveFault (f : ReceiveFault)
  | frameComplete (c : Byte)
  | transmitStart
  | deferral
  | collision
  | frameSent
  | errorWindowEnd
  | peerAgeingTick
  | stalenessTimerExpiry
  | listeningTimerExpiry
  | learningTimerExpiry
  | statusTimerExpiry
  | askOneSecondCheck
  | askThirtySecondCheck
  | holdLimitExpiry
  | backoffExpiry
  | lampFlashTick (lamp : Lamp)
  | characterTaken (c : Byte)
  deriving DecidableEq, Repr

end Sys2Proof
end

