-- ==== Sys2Proof/Config.lean ====
section
/-! DEFINITION. What an implementation or an installation fixes: the settings the loader reads (R188) with their built-in defaults,
the part's fixed times, and the free values (constants without a body, where the spec leaves a value open). -/

namespace Sys2Proof

/-- Four ordered temperature breakpoints of one direction, in 0.1 °C (R94, R188). -/
structure Breakpoints where
  lowZero : Int
  lowFull : Int
  highFull : Int
  highZero : Int
  deriving DecidableEq, Repr

/-- The values of the five configuration sections, in the order of the table of R188. -/
structure Settings where
  moduleCount : Nat
  capacity : Nat
  tolSum : Nat
  tolChk : Nat
  band : Nat
  ocv : List Nat
  disBreak : Breakpoints
  chgBreak : Breakpoints
  vEmpty : Nat
  vLowTaper : Nat
  vHighTaper : Nat
  vFull : Nat
  iMaxDis : Nat
  iMaxChg : Nat
  rating : Nat
  reconnectDelay : Nat
  rideThrough : Nat
  siteId : Nat
  revision : Nat
  auxLimit : Nat
  disTripCode : Nat
  chgTripCode : Nat
  l1Set : Nat
  l1Clear : Nat
  l2Set : Nat
  l2Clear : Nat
  prescalerM : Nat
  prescalerN : Nat
  releaseTime : Nat
  deriving DecidableEq, Repr

/-- The default discharge breakpoints (R188). -/
def Breakpoints.defaultDischarge : Breakpoints := ⟨-200, 100, 450, 550⟩

/-- The default charge breakpoints (R188). -/
def Breakpoints.defaultCharge : Breakpoints := ⟨0, 150, 400, 500⟩

/-- The default OCV table (section 2.1.1). -/
def ocvDefault : List Nat := [2800, 3180, 3220, 3250, 3270, 3285, 3295, 3310, 3330, 3350, 3420]

/-- The built-in defaults of every section (R188). -/
def Settings.defaults : Settings where
  moduleCount := 16
  capacity := 280
  tolSum := 40
  tolChk := 15
  band := 15
  ocv := ocvDefault
  disBreak := .defaultDischarge
  chgBreak := .defaultCharge
  vEmpty := 2800
  vLowTaper := 3000
  vHighTaper := 3450
  vFull := 3600
  iMaxDis := 280
  iMaxChg := 280
  rating := 250
  reconnectDelay := 300
  rideThrough := 5
  siteId := 0
  revision := 0
  auxLimit := 120
  disTripCode := 80
  chgTripCode := 80
  l1Set := 50
  l1Clear := 40
  l2Set := 200
  l2Clear := 160
  prescalerM := 15
  prescalerN := 5
  releaseTime := 30

/-- Qfull of R27, in mAs. -/
def Settings.qFull (c : Settings) : Nat := c.capacity * 3600000

namespace Config

/-- FREE VALUE (log entry 25): the cause, by its number of R70, that the part takes from a lockout slot whose first-cause byte is above 19
(R191 gives the field the values 0 to 19 and does not say what another byte means). -/
opaque unlistedCause : Nat → Fin 20

/-- FREE VALUE (log entry 9): the average cell voltage that R28 divides out of a first summary whose cell count is 0. -/
opaque averageOfNoCells : Nat → Nat

/-- FREE VALUE (log entry 10): whether a lamp that begins to flash begins with its lit half (R196 does not say). -/
opaque flashBeginsLit : Nat → Bool

/-- FREE VALUE (log entry 11): byte `i` that a slot holds after a write cut short by a reset (R85 says only that its check fails). -/
opaque tornByte : Nat → Nat → Byte

/-- FREE VALUE (log entry 13): the cause, by its place among the 17 of R168, that a change away from a state records where the rules name
none for it. -/
opaque unnamedExit : Nat → Fin 17

/-- FREE VALUE (log entry 13): whether the normal end of an orderly disconnection records DISCONNECTED, as R168 says of value 17, or the
cause that entered DISCONNECTING, as R180 says. -/
opaque endsAsDisconnected : Nat → Bool

/-! Times in ms, by the rule that states each. -/

/-- R1: the scan period. -/
def scanMs : Nat := 250
/-- R1: an answer window. -/
def answerWindowMs : Nat := 20
/-- R21: the current conversions. -/
def currentMs : Nat := 10
/-- R23: the gas loop conversions. -/
def gasMs : Nat := 100
/-- R25: the temperature conversions. -/
def temperatureMs : Nat := 1000
/-- R54: a tach window. -/
def tachWindowMs : Nat := 1000
/-- R192: a second. -/
def secondMs : Nat := 1000
/-- R47: the minimum-on time. -/
def minOnMs : Nat := 180000
/-- R47: the minimum-off time. -/
def minOffMs : Nat := 300000
/-- R55: the compressor start monitor. -/
def monitorMs : Nat := 10000
/-- R61: the aux retry timer. -/
def auxRetryMs : Nat := 10000
/-- R31: the full-calibration timer. -/
def fullCalibrationMs : Nat := 30000
/-- R35: the balance evaluation timer. -/
def evaluationMs : Nat := 60000
/-- R65: the smoke loop persistence timer. -/
def persistenceMs : Nat := 1000
/-- R66, R195: the settling time of a contact. -/
def settlingMs : Nat := 100
/-- R69: the heat-rise sample timer. -/
def heatSampleMs : Nat := 5000
/-- R72: the delay of the first evaluation. -/
def firstEvaluationMs : Nat := 2000
/-- R73: the escalation timer. -/
def escalationMs : Nat := 300000
/-- R73, R74: the fall-back and quiet timers. -/
def fallBackMs : Nat := 60000
/-- R80: the discharge confirmation timer. -/
def confirmationMs : Nat := 10000
/-- R84: the lockout retry timer. -/
def lockoutRetryMs : Nat := 1000
/-- R83, R191: the longest lockout write. -/
def lockoutWriteMs : Nat := 10
/-- R110: the setpoint period. -/
def setpointPeriodMs : Nat := 100
/-- R133: the error window. -/
def errorWindowMs : Nat := 10000
/-- R138: the ageing timer. -/
def ageingMs : Nat := 100
/-- R143: the staleness timer. -/
def stalenessMs : Nat := 10000
/-- R144: the listening timer. -/
def listeningMs : Nat := 1000
/-- R145: the learning timer. -/
def learningMs : Nat := 3000
/-- R146: the STATUS timer. -/
def statusMs : Nat := 1000
/-- R156: the last check on the ask timer. -/
def askMs : Nat := 30000
/-- R158: the hold limit. -/
def holdMs : Nat := 20000
/-- R162: the back-off of station `n`. -/
def backoffMs (n : Nat) : Nat := 2000 + 100 * n
/-- R180: the visibility timer. -/
def visibilityMs : Nat := 5000
/-- R121: the idle count at which a receiver takes the line as quiet, in bit-times. -/
def idleBits : Nat := 12
/-- Section 4.1: bit-times in one millisecond at 125 kbit/s. -/
def bitsPerMs : Nat := 125

end Config

end Sys2Proof
end

