-- ==== Sys2Proof/Machine/State.lean ====
section
/-! DEFINITION. The state of the part as plain data: one structure per block (00_scope section 2.1), each with every field the spec
gives that block, its reset values, and `State` with the queue of waiting commands. INVENTORY.md lists each field with its rule. -/

namespace Sys2Proof.Machine

/-- A timer: `none` when stopped, otherwise the milliseconds elapsed. -/
abbrev Timer := Option Nat

/-- The configuration memory: (address, byte) pairs with strictly rising addresses and no byte equal to what an unlisted address
reads as (`Memory.wf`). -/
abbrev Memory := List Host.Cell

/-! ## Module scan unit -/

/-- The check state of a module (section 1.2). -/
inductive CheckState where
  | normal | search | degraded | blind | lost
  deriving DecidableEq, Repr

/-- An entry of the channel status table (section 1.2). -/
inductive ChannelStatus where
  | good | suspect | substituted | failed
  deriving DecidableEq, Repr

/-- The outcomes an error-hold record can show (R16), in the order of their values 1 to 9. -/
inductive ErrorOutcome where
  | searchEntered | cellFailed | unplaced | checkPathDegraded | degradedSumFault
  | searchExhausted | secondFault | substituteConflict | noTemperature
  deriving DecidableEq, Repr

/-- A latched error-hold record (R16). -/
structure ErrorHold where
  round : Nat
  d : Int
  k : Nat
  outcome : ErrorOutcome
  deriving DecidableEq, Repr

/-- A module temperature with its valid mark (R2). -/
structure TempReading where
  value : Int
  valid : Bool
  deriving DecidableEq, Repr

/-- The module record (section 1.2, R5). -/
structure ModuleRecord where
  check : CheckState
  hasData : Bool
  cells : List Nat
  total : Nat
  checkReading : Nat
  temps : List TempReading
  missCount : Nat
  stale : Bool
  k : Nat
  disagree : Nat
  search : Nat
  channels : List ChannelStatus
  subst : Option Nat
  readmit : Bool
  errorHold : Option ErrorHold
  deriving DecidableEq, Repr

/-- The reset value of a module record (R5). -/
def ModuleRecord.reset : ModuleRecord where
  check := .normal
  hasData := false
  cells := List.replicate 20 0
  total := 0
  checkReading := 0
  temps := List.replicate 4 ⟨0, false⟩
  missCount := 0
  stale := false
  k := 1
  disagree := 0
  search := 0
  channels := List.replicate 20 .good
  subst := none
  readmit := false
  errorHold := none

/-- Where a module's answer window stands in the round in flight (R1 to R4). `accepted` remembers whether the module stood
re-admitted when its report was accepted (R19). -/
inductive Window where
  | notSent | opened | accepted (readmitted : Bool) | missed
  deriving DecidableEq, Repr

/-- The round in flight (R1): its quiet answer, the bleed sets it carries, and each module's window. -/
structure Round where
  quiet : Bool
  carried : List (List Nat)
  windows : List Window
  deriving DecidableEq, Repr

/-- The request occupying the chain (R1). -/
structure ModuleRequest where
  n : Nat
  round : Nat
  k : Nat
  bleed : List Nat
  deriving DecidableEq, Repr

/-- An extreme cell value with its module and cell (R17). -/
structure CellAt where
  mv : Nat
  n : Nat
  cell : Nat
  deriving DecidableEq, Repr

/-- An extreme temperature with its module and sensor (R17). -/
structure TempAt where
  value : Int
  n : Nat
  sensor : Nat
  deriving DecidableEq, Repr

/-- The string summary (R17). -/
structure Summary where
  round : Nat
  vMin : Option CellAt
  vMax : Option CellAt
  tMin : Option TempAt
  tMax : Option TempAt
  maxima : List (Option Int)
  stringV : Nat
  cellCount : Nat
  staleCount : Nat
  visibilityLost : Bool
  deriving DecidableEq, Repr

/-- The module scan unit. `timer` is the 250 ms scan timer; `answers` holds, for each module, how long its answer window has been open
(R1, R3). -/
structure ScanState where
  timer : Timer
  answers : List Timer
  modules : List ModuleRecord
  roundNumber : Nat
  round : Option Round
  request : Option ModuleRequest
  summary : Option Summary
  visibilityLost : Bool
  deriving DecidableEq, Repr

/-- R5: the scan unit at reset. -/
def ScanState.reset : ScanState where
  timer := none
  answers := List.replicate 16 none
  modules := List.replicate 16 .reset
  roundNumber := 0
  round := none
  request := none
  summary := none
  visibilityLost := false

/-! ## Analog watch unit -/

/-- A converted gas loop: reading in 0.01 mA and concentration in ppm (R23). -/
structure GasReading where
  reading : Nat
  ppm : Nat
  deriving DecidableEq, Repr

/-- A coolant or ambient sensor: last valid value and FAULT flag (R25). -/
structure Sensor where
  value : Option Int
  fault : Bool
  deriving DecidableEq, Repr

/-- The comparators of one gas loop: two levels and the supervision (R23, R24). -/
structure LoopComparators where
  l1 : Bool
  l2 : Bool
  fault : Bool
  deriving DecidableEq, Repr

/-- The analog watch unit, with its three conversion timers (R21, R23, R25, R26). -/
structure AnalogState where
  currentTimer : Timer
  gasTimer : Timer
  temperatureTimer : Timer
  sample : Int
  overRange : Bool
  gasA : GasReading
  gasB : GasReading
  inlet : Sensor
  outlet : Sensor
  ambient : Sensor
  tripDischarge : Bool
  tripCharge : Bool
  loopA : LoopComparators
  loopB : LoopComparators
  deriving DecidableEq, Repr

/-- R21 to R25: the analog watch unit at reset. -/
def AnalogState.reset : AnalogState where
  currentTimer := none
  gasTimer := none
  temperatureTimer := none
  sample := 0
  overRange := false
  gasA := ⟨0, 0⟩
  gasB := ⟨0, 0⟩
  inlet := ⟨none, false⟩
  outlet := ⟨none, false⟩
  ambient := ⟨none, false⟩
  tripDischarge := false
  tripCharge := false
  loopA := ⟨false, false, false⟩
  loopB := ⟨false, false, false⟩

/-! ## Charge accounting -/

/-- The counter condition (section 2.1). -/
inductive CounterCondition where
  | noEstimate | counting
  deriving DecidableEq, Repr

/-- The kind of the last calibration (section 2.1). -/
inductive CalibrationKind where
  | none | startEstimate | full | empty
  deriving DecidableEq, Repr

/-- The charge accounting unit. -/
structure ChargeState where
  condition : CounterCondition
  q : Nat
  soc : Nat
  uncertain : Bool
  fullTimer : Timer
  armed : Bool
  emptyCount : Nat
  lastKind : CalibrationKind
  lastUptime : Nat
  deriving DecidableEq, Repr

/-- R27: charge accounting at reset. -/
def ChargeState.reset : ChargeState where
  condition := .noEstimate
  q := 0
  soc := 0
  uncertain := true
  fullTimer := none
  armed := true
  emptyCount := 0
  lastKind := .none
  lastUptime := 0

/-! ## Balancing -/

/-- The result of the last balance evaluation (section 2.2). -/
inductive BalanceResult where
  | none | balancing | idleVoltage | idleCurrent | idleHazard
  deriving DecidableEq, Repr

/-- Why a module was excluded (section 2.2). -/
inductive Exclusion where
  | none | notNormal | hot | stale | noData
  deriving DecidableEq, Repr

/-- The balancing unit. -/
structure BalanceState where
  sets : List (List Nat)
  seconds : List (List Nat)
  quarters : List (List Nat)
  phase : Nat
  evalTimer : Timer
  result : BalanceResult
  target : Option Nat
  reasons : List Exclusion
  deriving DecidableEq, Repr

/-- R35: the balancing unit at reset. -/
def BalanceState.reset : BalanceState where
  sets := List.replicate 16 []
  seconds := List.replicate 16 (List.replicate 20 0)
  quarters := List.replicate 16 (List.replicate 20 0)
  phase := 0
  evalTimer := none
  result := .none
  target := none
  reasons := List.replicate 16 .none

/-! ## Thermal control -/

/-- The cooling stages (section 3.2). -/
inductive Stage where
  | off | circulate | cool1 | cool2 | heat
  deriving DecidableEq, Repr

/-- The hazard-forced modes (section 3.3). -/
inductive ForcedMode where
  | none | coolForced | purge | sealed
  deriving DecidableEq, Repr

/-- The need state of the thermal unit (section 3.7). -/
inductive NeedState where
  | none | waiting | starting | retry
  deriving DecidableEq, Repr

/-- The last aux check (R60). -/
structure AuxCheck where
  peerSum : Nat
  own : Nat
  limit : Nat
  pass : Bool
  uptime : Nat
  deriving DecidableEq, Repr

/-- One PWM drive with its tach monitor (R53, R54). `low` marks that the duty in force was below 16 at some moment of the running
window. -/
structure DriveState where
  dutySet : Nat
  duty : Nat
  pulses : Nat
  low : Bool
  lowCount : Nat
  rate : Nat
  failed : Bool
  deriving DecidableEq, Repr

/-- A PWM drive at reset. -/
def DriveState.reset : DriveState := ⟨0, 0, 0, true, 0, 0, false⟩

/-- The thermal unit. `tachTimer` is the running tach window (R54). -/
structure ThermalState where
  tachTimer : Timer
  stage : Stage
  forced : ForcedMode
  need : NeedState
  wanted : Option Stage
  auxWait : Bool
  aux : Nat
  derate : Nat
  compressor : Bool
  minOn : Timer
  minOff : Timer
  monitor : Timer
  confirmed : Bool
  retry : Timer
  pump : DriveState
  fan1 : DriveState
  fan2 : DriveState
  heater : Bool
  damper : Bool
  exhaust : Bool
  compressorFailed : Bool
  lastAux : Option AuxCheck
  feedback : Bool
  deriving DecidableEq, Repr

/-- R44: the thermal unit at reset; the run feedback is a terminal and keeps its level. -/
def ThermalState.reset (feedback : Bool) : ThermalState where
  tachTimer := none
  stage := .off
  forced := .none
  need := .none
  wanted := none
  auxWait := false
  aux := 0
  derate := 1000
  compressor := false
  minOn := none
  minOff := some 0
  monitor := none
  confirmed := false
  retry := none
  pump := .reset
  fan1 := .reset
  fan2 := .reset
  heater := false
  damper := false
  exhaust := false
  compressorFailed := false
  lastAux := none
  feedback := feedback

/-! ## Hazard unit -/

/-- The members of the indication set, in the order of their values 1 to 13 (R70). -/
inductive Indication where
  | gasAL1 | gasAL2 | gasBL1 | gasBL2 | smokeA | smokeB | heatHigh | heatRise | manual
  | gasAFault | gasBFault | smokeAFault | smokeBFault
  deriving DecidableEq, Repr

/-- The causes of R70. -/
inductive Cause where
  | none | member (i : Indication) | escalation | countdownEnd | panelDischarged | fallBack | maintClear | lockoutStart
  deriving DecidableEq, Repr

/-- The hazard levels, in their order (section 4.4). -/
inductive HazardLevel where
  | clear | watch | preAlarm | alarm | releasing | discharged | lockout
  deriving DecidableEq, Repr

/-- The bands of a smoke loop supervision input (R65). -/
inductive SmokeBand where
  | short | alarmBand | quiescent | opened
  deriving DecidableEq, Repr

/-- The state of a smoke loop (R65). -/
inductive SmokeState where
  | normal | active | fault
  deriving DecidableEq, Repr

/-- A smoke loop: the band its terminal stands in, its state and its persistence timer (R65). -/
structure SmokeLoop where
  band : SmokeBand
  state : SmokeState
  timer : Timer
  deriving DecidableEq, Repr

/-- A settled contact input: terminal level, level taken, settling timer (R66, R195). -/
structure ContactInput where
  terminal : Bool
  taken : Bool
  timer : Timer
  deriving DecidableEq, Repr

/-- A first-cause record (R87). -/
structure FirstCause where
  set : List Indication
  trigger : Cause
  tMax : Option TempAt
  uptime : Nat
  deriving DecidableEq, Repr

/-- An entry of the hazard history (R88). -/
structure HistoryEntry where
  old : HazardLevel
  new : HazardLevel
  cause : Cause
  uptime : Nat
  deriving DecidableEq, Repr

/-- The content of a lockout write; level `none` is an erase (R82, R83). -/
structure LockoutContent where
  level : Option HazardLevel
  cause : Cause
  uptime : Nat
  deriving DecidableEq, Repr

/-- The image of the newest lockout record (R82). `second` tells the second slot from the first. -/
structure LockoutImage where
  second : Bool
  seq : Nat
  content : LockoutContent
  deriving DecidableEq, Repr

/-- The hazard unit. -/
structure HazardState where
  level : HazardLevel
  set : List Indication
  firstCause : Cause
  smokeA : SmokeLoop
  smokeB : SmokeLoop
  callPoint : ContactInput
  door : ContactInput
  hold : ContactInput
  dischargedInput : ContactInput
  countdown : Nat
  release : Bool
  confirm : Timer
  releaseFault : Bool
  escalation : Timer
  fallBack : Timer
  quiet : Timer
  firstEval : Timer
  evaluated : Bool
  sampleTimer : Timer
  rings : List (List (Option Int))
  firstPre : Option FirstCause
  firstAlarm : Option FirstCause
  history : List HistoryEntry
  neighbourAlarm : Bool
  image : Option LockoutImage
  writeFault : Bool
  retry : Timer
  retryContent : Option LockoutContent
  deriving DecidableEq, Repr

/-- A contact input at reset: taken as inactive, its terminal as it stands (R66). -/
def ContactInput.reset (terminal : Bool) : ContactInput := ⟨terminal, false, none⟩

/-- R92: the hazard unit at reset, with the release time in seconds and the terminals as they stand. -/
def HazardState.reset (releaseTime : Nat) (bandA bandB : SmokeBand) (callPoint door hold discharged : Bool) : HazardState where
  level := .clear
  set := []
  firstCause := .none
  smokeA := ⟨bandA, .normal, none⟩
  smokeB := ⟨bandB, .normal, none⟩
  callPoint := .reset callPoint
  door := .reset door
  hold := .reset hold
  dischargedInput := .reset discharged
  countdown := releaseTime * 1000
  release := false
  confirm := none
  releaseFault := false
  escalation := none
  fallBack := none
  quiet := none
  firstEval := none
  evaluated := false
  sampleTimer := none
  rings := List.replicate 16 []
  firstPre := none
  firstAlarm := none
  history := []
  neighbourAlarm := false
  image := none
  writeFault := false
  retry := none
  retryContent := none

/-! ## Limit and share -/

/-- The share direction (R103). -/
inductive ShareDirection where
  | discharge | charge | none
  deriving DecidableEq, Repr

/-- The target basis (R106). -/
inductive TargetBasis where
  | share | hold | stop | zeroNotConnected | zeroStale | zeroSite | zeroWeight
  deriving DecidableEq, Repr

/-- The limit and share unit. -/
structure LimitState where
  tempDis : Nat
  tempChg : Nat
  voltDis : Nat
  voltChg : Nat
  iDis : Nat
  iChg : Nat
  pDis : Nat
  pChg : Nat
  thermalDerate : Nat
  hazardDerate : Nat
  visibility : Nat
  cDis : Nat
  cChg : Nat
  direction : ShareDirection
  participants : Nat
  ownWeight : Nat
  siteWeight : Nat
  basis : TargetBasis
  target : Int
  ownRamp : Nat
  setpoint : Int
  residue : Nat
  period : Timer
  summaryPresent : Bool
  deriving DecidableEq, Repr

/-- R95: limit and share at reset. -/
def LimitState.reset : LimitState where
  tempDis := 0
  tempChg := 0
  voltDis := 0
  voltChg := 0
  iDis := 0
  iChg := 0
  pDis := 0
  pChg := 0
  thermalDerate := 1000
  hazardDerate := 1000
  visibility := 1000
  cDis := 0
  cChg := 0
  direction := .none
  participants := 0
  ownWeight := 0
  siteWeight := 0
  basis := .zeroNotConnected
  target := 0
  ownRamp := 1
  setpoint := 0
  residue := 0
  period := none
  summaryPresent := false

/-! ## Start permit -/

/-- The purposes of a need, in the order of their codes 1 to 3 (R120, section 8.1). -/
inductive Purpose where
  | precharge | coolStage | heatStage
  deriving DecidableEq, Repr

/-- A need (section 8.1). -/
structure Need where
  purpose : Purpose
  increase : Nat
  deriving DecidableEq, Repr

/-- The permit states (section 8.1). -/
inductive PermitPhase where
  | idle | asking | holding | backoff
  deriving DecidableEq, Repr

/-- The own frame owed (section 8.1). -/
inductive OwedFrame where
  | none | status | release
  deriving DecidableEq, Repr

/-- The outcome of a hold (section 8.1). -/
inductive HoldOutcome where
  | started | notStarted | ended | cleared
  deriving DecidableEq, Repr

/-- The last ask heard (R160); `granted` is the answer given. -/
structure AskHeard where
  source : Nat
  tag : Nat
  waits : Nat
  purpose : Purpose
  increase : Nat
  granted : Bool
  uptime : Nat
  deriving DecidableEq, Repr

/-- The last hold (R158). -/
structure HoldRecord where
  purpose : Purpose
  outcome : HoldOutcome
  heldAt : Nat
  releasedAt : Nat
  deriving DecidableEq, Repr

/-- The permit unit. `heldAt` is the uptime of the present holding. -/
structure PermitState where
  phase : PermitPhase
  tag : Nat
  waits : Nat
  queue : List Need
  served : Option Need
  heldAt : Nat
  awaited : List Nat
  deferredBy : List Nat
  deferred : List (Nat × Nat)
  owed : OwedFrame
  free : Nat
  ask : Timer
  hold : Timer
  backoff : Timer
  lastAsk : Option AskHeard
  lastHold : Option HoldRecord
  dropped : Nat
  deriving DecidableEq, Repr

/-- R149: the permit unit at reset. -/
def PermitState.reset : PermitState where
  phase := .idle
  tag := 0
  waits := 0
  queue := []
  served := none
  heldAt := 0
  awaited := []
  deferredBy := []
  deferred := []
  owed := .none
  free := 8
  ask := none
  hold := none
  backoff := none
  lastAsk := none
  lastHold := none
  dropped := 0

/-! ## Station line -/

/-- The receiver states (R121). -/
inductive ReceiverState where
  | hunt | receiving | discard
  deriving DecidableEq, Repr

/-- The transmitter states (R125). -/
inductive TransmitterState where
  | idle | waiting | sending
  deriving DecidableEq, Repr

/-- The frame classes, highest first (R124). -/
inductive FrameClass where
  | urgent | permit | reply | routine
  deriving DecidableEq, Repr

/-- A HAZARD frame as composed at a change of level (R77). -/
structure HazardFrame where
  level : HazardLevel
  set : List Indication
  firstCause : Cause
  countdown : Nat
  deriving DecidableEq, Repr

/-- A frame in the PERMIT store (R130). -/
inductive PermitFrame where
  | ask (tag waits : Nat) (purpose : Purpose) (increase : Nat)
  | grant (dest tag : Nat)
  | defer (dest tag : Nat)
  | release (tag : Nat)
  | status
  deriving DecidableEq, Repr

/-- A RECORD frame in the REPLY store: its reader and its payload, fixed at the READ (R131). -/
structure ReplyFrame where
  dest : Nat
  payload : List Byte
  deriving DecidableEq, Repr

/-- The requests of the ROUTINE store (R132). -/
inductive RoutineRequest where
  | status | present
  deriving DecidableEq, Repr

/-- The promotion bar of the oldest frame of each class (R127: "the bar stays on the frame"). -/
structure PromotionBars where
  urgent : Bool
  permit : Bool
  reply : Bool
  routine : Bool
  deriving DecidableEq, Repr

/-- The line interface. `txBytes` holds the frame on the line while SENDING; the driver enable is on exactly then. `taken`: a start bit
has taken the line, or it stands at space, so that no idle bit-times are counted (R116). -/
structure LineState where
  rx : ReceiverState
  rxBuf : List Byte
  idle : Nat
  taken : Bool
  tx : TransmitterState
  inHand : Option FrameClass
  txBytes : List Byte
  deferrals : Nat
  promoted : Bool
  bars : PromotionBars
  urgent : Option HazardFrame
  urgentNext : Option HazardFrame
  permits : List PermitFrame
  replies : List ReplyFrame
  routine : List RoutineRequest
  statusAgain : Bool
  errors : Nat
  window : Timer
  degraded : Bool
  duplicate : Bool
  deriving DecidableEq, Repr

/-- The table at the head of chapter 6: the line interface at reset. -/
def LineState.reset : LineState where
  rx := .discard
  rxBuf := []
  idle := 0
  taken := false
  tx := .idle
  inHand := none
  txBytes := []
  deferrals := 0
  promoted := false
  bars := ⟨false, false, false, false⟩
  urgent := none
  urgentNext := none
  permits := []
  replies := []
  routine := []
  statusAgain := false
  errors := 0
  window := none
  degraded := false
  duplicate := false

/-! ## Connection unit -/

/-- The nine connection states, in the order of their values 0 to 8 (section 9.1). -/
inductive ConnPhase where
  | opened | waitPermit | precharging | dcClosed | connected | rideThrough | disconnecting | tripped | locked
  deriving DecidableEq, Repr

/-- The exit causes, in the order of their values 1 to 17 (R168). -/
inductive ExitCause where
  | stop | preAlarm | alarm | visibility | duplicate | fastTrip | cellHigh | cellLow | linkLost | converterFault
  | prechargeTimeout | readyTimeout | holdEnded | permitCleared | gridLost | rideThroughExpired | disconnected
  deriving DecidableEq, Repr

/-- The lock reasons (R183). -/
structure LockReasons where
  failures : Bool
  hazard : Bool
  duplicate : Bool
  deriving DecidableEq, Repr

/-- The four drive outputs of the connection unit (R169); true is closed, or on. -/
structure Drives where
  mainNegative : Bool
  precharge : Bool
  mainPositive : Bool
  enable : Bool
  deriving DecidableEq, Repr

/-- The names of the four outputs, for the order in which they change (R169). -/
inductive DriveOutput where
  | mainNegative | precharge | mainPositive | enable
  deriving DecidableEq, Repr

/-- The last converter answer accepted, with its uptime (R171). -/
structure LastAnswer where
  answer : ConverterAnswer
  uptime : Nat
  deriving DecidableEq, Repr

/-- The last exit (R168). -/
structure LastExit where
  cause : ExitCause
  left : ConnPhase
  uptime : Nat
  deriving DecidableEq, Repr

/-- The connection unit. -/
structure ConnState where
  phase : ConnPhase
  locks : LockReasons
  drives : Drives
  switching : List (DriveOutput × Bool)
  linkUp : Bool
  misses : Nat
  seq : Nat
  lastFrame : Option (Nat × Int)
  answered : Bool
  lastAnswer : Option LastAnswer
  gridTimer : Timer
  gridReached : Bool
  tripDischarge : Bool
  tripCharge : Bool
  failures : Nat
  stateTimer : Timer
  visibilityTimer : Timer
  threshold : Option Nat
  exitPending : Option ExitCause
  lastExit : Option LastExit
  deriving DecidableEq, Repr

/-- R168: the connection unit at reset. -/
def ConnState.reset : ConnState where
  phase := .opened
  locks := ⟨false, false, false⟩
  drives := ⟨false, false, false, false⟩
  switching := []
  linkUp := false
  misses := 5
  seq := 0
  lastFrame := none
  answered := false
  lastAnswer := none
  gridTimer := none
  gridReached := false
  tripDischarge := false
  tripCharge := false
  failures := 0
  stateTimer := none
  visibilityTimer := none
  threshold := none
  exitPending := none
  lastExit := none

/-! ## Peer table and service state -/

/-- The presence states (section 7.1). -/
inductive Presence where
  | empty | present | silent | absent
  deriving DecidableEq, Repr

/-- The kind of a station (section 7.1). -/
inductive StationKind where
  | unknown | container | gateway
  deriving DecidableEq, Repr

/-- The digest state (section 7.1). -/
inductive DigestState where
  | unknown | same | mismatch
  deriving DecidableEq, Repr

/-- What the last PRESENT announced (R139). -/
structure Announced where
  digest : Nat
  moduleCount : Nat
  rating : Nat
  deriving DecidableEq, Repr

/-- The six flags of a STATUS (R120). -/
structure StatusFlags where
  socUncertain : Bool
  neighbourAlarm : Bool
  lineDegraded : Bool
  auxWait : Bool
  visibilityLost : Bool
  siteMismatch : Bool
  deriving DecidableEq, Repr

/-- The last STATUS fields of a peer (R140). -/
structure StatusFields where
  dis : Nat
  chg : Nat
  soc : Nat
  aux : Nat
  conn : ConnPhase
  setpoint : Int
  flags : StatusFlags
  deriving DecidableEq, Repr

/-- The last HAZARD fields of a peer (R141). -/
structure HazardFields where
  set : List Indication
  firstCause : Cause
  countdown : Nat
  deriving DecidableEq, Repr

/-- The dispatch modes (R120). -/
inductive DispatchMode where
  | run | hold | stop
  deriving DecidableEq, Repr

/-- The last dispatch taken from a gateway (R142). -/
structure PeerDispatch where
  setpoint : Int
  ramp : Nat
  mode : DispatchMode
  age : Nat
  deriving DecidableEq, Repr

/-- A peer table entry (section 7.1). The STATUS-received flag is set exactly while `status` is present. -/
structure PeerEntry where
  presence : Presence
  age : Nat
  kind : StationKind
  digest : DigestState
  announced : Option Announced
  status : Option StatusFields
  level : Option HazardLevel
  hazard : Option HazardFields
  dispatch : Option PeerDispatch
  frames : Nat
  deriving DecidableEq, Repr

/-- R136: a peer entry at reset. -/
def PeerEntry.reset : PeerEntry := ⟨.empty, 0, .unknown, .unknown, none, none, none, none, none, 0⟩

/-- The condition of the effective dispatch (section 7.3). -/
inductive DispatchCondition where
  | none | current | stale
  deriving DecidableEq, Repr

/-- The effective dispatch (section 7.3). -/
structure EffectiveDispatch where
  condition : DispatchCondition
  source : Option Nat
  setpoint : Int
  ramp : Nat
  mode : Option DispatchMode
  staleness : Timer
  deriving DecidableEq, Repr

/-- The service states (section 7.4). -/
inductive ServiceState where
  | listening | announcing | learning | inService
  deriving DecidableEq, Repr

/-- The peer table with the effective dispatch and the service state of the own station. -/
structure PeerState where
  entries : List PeerEntry
  dispatch : EffectiveDispatch
  siteMismatch : Bool
  ageing : Timer
  service : ServiceState
  huntSeen : Bool
  listening : Timer
  learning : Timer
  status : Timer
  deriving DecidableEq, Repr

/-- R136, R144: the peer table and the service state at reset. -/
def PeerState.reset : PeerState where
  entries := List.replicate 30 .reset
  dispatch := ⟨.none, none, 0, 0, none, none⟩
  siteMismatch := false
  ageing := none
  service := .listening
  huntSeen := false
  listening := none
  learning := none
  status := none

/-! ## Loader, memory port, record server -/

/-- Where the start stands (R186, R190). -/
inductive LoadPhase where
  | held | loading | running
  deriving DecidableEq, Repr

/-- The start kinds (R190). -/
inductive StartKind where
  | configured | unconfigured
  deriving DecidableEq, Repr

/-- A section's check result and adjusted flags (R187, R188). -/
structure SectionReport where
  valid : Bool
  clamped : Bool
  replaced : Bool
  defaulted : Bool
  deriving DecidableEq, Repr

/-- The reports of the five sections. -/
structure SectionReports where
  station : SectionReport
  site : SectionReport
  analog : SectionReport
  thermal : SectionReport
  hazard : SectionReport
  deriving DecidableEq, Repr

/-- A slot write in progress: its slot and sequence number are fixed at its start (R83). -/
structure SlotWrite where
  second : Bool
  seq : Nat
  content : LockoutContent
  deriving DecidableEq, Repr

/-- The configuration loader, the memory port and the record server. `second` is the running second of the uptime (R192), `writeTimer`
the time since the start of the write in progress (R83, R191). -/
structure LoaderState where
  phase : LoadPhase
  straps : Nat
  listenOnly : Bool
  startKind : Option StartKind
  memoryFault : Bool
  sections : SectionReports
  digest : Nat
  cfg : Settings
  uptime : Nat
  second : Timer
  answered : Nat
  dropped : Nat
  writeStore : Option LockoutContent
  writing : Option SlotWrite
  writeTimer : Timer
  deriving DecidableEq, Repr

/-- A strap reading that gives no valid number makes the start listen-only (R186). -/
def listenOnlyReading (straps : Nat) : Bool := straps == 0 || decide (30 < straps)

/-- The loader at reset, in the given phase and with the strap reading it holds. -/
def LoaderState.reset (phase : LoadPhase) (straps : Nat) : LoaderState where
  phase := phase
  straps := straps
  listenOnly := listenOnlyReading straps
  startKind := none
  memoryFault := false
  sections :=
    let r : SectionReport := ⟨false, false, false, false⟩
    ⟨r, r, r, r, r⟩
  digest := 0
  cfg := .defaults
  uptime := 0
  second := if phase = .held then none else some 0
  answered := 0
  dropped := 0
  writeStore := none
  writing := none
  writeTimer := none

/-! ## Key switch and lamps -/

/-- How a lamp is driven (R196). -/
inductive LampMode where
  | off | steady | flash1 | flash4
  deriving DecidableEq, Repr

/-- A lamp output (R196). -/
structure LampState where
  mode : LampMode
  lit : Bool
  deriving DecidableEq, Repr

/-- The three lamps. -/
structure Lamps where
  run : LampState
  alert : LampState
  fault : LampState
  deriving DecidableEq, Repr

/-- R196: the lamps before the loader finishes. -/
def Lamps.reset : Lamps := ⟨⟨.off, false⟩, ⟨.off, false⟩, ⟨.off, false⟩⟩

/-- R195: the key switch is taken as active at a reset; a terminal found inactive begins to settle at once. -/
def keyReset (terminal : Bool) : ContactInput := ⟨terminal, true, if terminal then none else some 0⟩

/-! ## The whole part -/

/-- The state of the part, with the queue of the commands that wait. -/
structure State where
  loader : LoaderState
  scan : ScanState
  analog : AnalogState
  charge : ChargeState
  balance : BalanceState
  thermal : ThermalState
  hazard : HazardState
  limit : LimitState
  line : LineState
  peers : PeerState
  permit : PermitState
  conn : ConnState
  key : ContactInput
  lamps : Lamps
  mem : Memory
  freeCount : Nat
  pending : List Instr
  deriving DecidableEq, Repr

/-- The faults of the model: none. No event of the spec stops the part (INVENTORY, Faults), so no command raises one. -/
inductive Fault where
  deriving DecidableEq, Repr

/-- The refusals of the model. -/
inductive Refusal where
  /-- Raised by `exec` for a command that has no meaning yet; no arm raises it. Safe: the model stops where the part goes on. -/
  | notModelled (mnemonic : String)
  deriving DecidableEq, Repr

/-- The part right after power is applied: every block at its reset values, the loader loading (R5, R186). What the spec does not
state (the strap reading before the first one, the terminals' levels, the memory's content) is named in log entries 3 to 6. -/
def State.reset : State where
  loader := .reset .loading 0
  scan := .reset
  analog := .reset
  charge := .reset
  balance := .reset
  thermal := .reset false
  hazard := .reset Settings.defaults.releaseTime .quiescent .quiescent false false false false
  limit := .reset
  line := .reset
  peers := .reset
  permit := .reset
  conn := .reset
  key := keyReset false
  lamps := .reset
  mem := []
  freeCount := 0
  pending := []

end Sys2Proof.Machine
end

