-- ==== Sys2Proof/Machine/Ops.lean ====
section
/-! DEFINITION. The shared operations: the configuration memory, the check of R118, byte order, the codes that rules give to states and
causes, the notices between the permit unit and its clients, and the working state a command's effects run on. -/

namespace Sys2Proof.Machine

/-! ## The configuration memory (R186) -/

/-- What a byte reads as that nothing has written: FFh, as a blank memory does (R187; DESIGN CHOICE, log entry 5, unsafe). -/
def blankByte : Byte := 0xFF#8

/-- Bytes of the configuration memory (R186). -/
def memorySize : Nat := 2048

/-- The byte at an address. -/
def Memory.read : Memory → Nat → Byte
  | [], _ => blankByte
  | (x, b) :: rest, a => if x = a then b else Memory.read rest a

/-- Writes one byte, keeping the canonical form. -/
def Memory.write : Memory → Nat → Byte → Memory
  | [], a, v => if v = blankByte then [] else [(a, v)]
  | (x, b) :: rest, a, v =>
    if a < x then (if v = blankByte then (x, b) :: rest else (a, v) :: (x, b) :: rest)
    else if a = x then (if v = blankByte then rest else (a, v) :: rest)
    else (x, b) :: Memory.write rest a v

/-- Writes bytes one after another from an address up. -/
def Memory.writeBytes : Memory → Nat → List Byte → Memory
  | m, _, [] => m
  | m, a, b :: bs => Memory.writeBytes (Memory.write m a b) (a + 1) bs

/-- The bytes of an area, lowest address first. -/
def Memory.readBytes (m : Memory) (a n : Nat) : List Byte := (List.range n).map fun i => Memory.read m (a + i)

/-- The canonical form: addresses inside the memory and strictly rising, no byte that an unlisted address reads as. -/
abbrev Memory.wf (m : Memory) : Prop :=
  m.Pairwise (fun x y => x.1 < y.1) ∧ ∀ c ∈ m, c.1 < memorySize ∧ c.2 ≠ blankByte

/-! ## The check of R118 -/

/-- One bit of the check register: shift, and take the generator x^16 + x^12 + x^5 + 1 when a one leaves it. -/
def crcBit (r : BitVec 16) : BitVec 16 := if r.msb then (r <<< 1) ^^^ 0x1021#16 else r <<< 1

/-- One byte, most significant bit first. -/
def crcByte (r : BitVec 16) (b : Byte) : BitVec 16 :=
  crcBit (crcBit (crcBit (crcBit (crcBit (crcBit (crcBit (crcBit (r ^^^ ((b.setWidth 16) <<< 8)))))))))

/-- The check of R118 over some bytes: the register starts at all ones and is sent as it stands. -/
def crc16 (bytes : List Byte) : BitVec 16 := bytes.foldl crcByte 0xFFFF#16

/-! ## Byte order: high byte first, signed in two's complement (R117, R186, R194) -/

/-- `n` bytes of a number, high byte first. -/
def beBytes : Nat → Nat → List Byte
  | 0, _ => []
  | n + 1, v => BitVec.ofNat 8 (v / 256 ^ n) :: beBytes n v

/-- `n` bytes of a signed number in two's complement, high byte first. -/
def beSigned (n : Nat) (v : Int) : List Byte := beBytes n (v % (256 ^ n : Nat)).toNat

/-- The number that bytes hold, high byte first. -/
def beNat (bytes : List Byte) : Nat := bytes.foldl (fun acc b => acc * 256 + b.toNat) 0

/-- The signed number that bytes hold, high byte first. -/
def beInt (bytes : List Byte) : Int :=
  let v := beNat bytes
  if 2 * v < 256 ^ bytes.length then v else (v : Int) - (256 ^ bytes.length : Nat)

/-- `n` bytes from position `i`. -/
def slice (bytes : List Byte) (i n : Nat) : List Byte := (bytes.drop i).take n

/-- The check as its two bytes, high byte first. -/
def crcBytes (bytes : List Byte) : List Byte := beBytes 2 (crc16 bytes).toNat

/-! ## Lists by position -/

/-- Applies a function to every element with its position, counted from `i`. -/
def mapFrom {α β : Type} (f : Nat → α → β) : Nat → List α → List β
  | _, [] => []
  | i, x :: xs => f i x :: mapFrom f (i + 1) xs

/-- Changes the element at a position. -/
def changeAt {α : Type} (f : α → α) : Nat → List α → List α
  | _, [] => []
  | 0, x :: xs => f x :: xs
  | i + 1, x :: xs => x :: changeAt f i xs

/-- The sum of some numbers. -/
def sumOf (l : List Nat) : Nat := l.foldr (· + ·) 0

/-! ## Codes -/

/-- The numbers of the hazard levels (section 4.4). -/
def HazardLevel.code : HazardLevel → Nat
  | .clear => 0 | .watch => 1 | .preAlarm => 2 | .alarm => 3 | .releasing => 4 | .discharged => 5 | .lockout => 6

/-- The hazard level of a number. -/
def HazardLevel.ofCode : Nat → Option HazardLevel
  | 0 => some .clear | 1 => some .watch | 2 => some .preAlarm | 3 => some .alarm
  | 4 => some .releasing | 5 => some .discharged | 6 => some .lockout | _ => none

/-- "PRE_ALARM or any level after it". -/
def HazardLevel.isPre (l : HazardLevel) : Bool := decide (2 ≤ l.code)

/-- "ALARM or above": the latched levels. -/
def HazardLevel.isAlarm (l : HazardLevel) : Bool := decide (3 ≤ l.code)

/-- The values of the indication set's members (R70). -/
def Indication.code : Indication → Nat
  | .gasAL1 => 1 | .gasAL2 => 2 | .gasBL1 => 3 | .gasBL2 => 4 | .smokeA => 5 | .smokeB => 6 | .heatHigh => 7
  | .heatRise => 8 | .manual => 9 | .gasAFault => 10 | .gasBFault => 11 | .smokeAFault => 12 | .smokeBFault => 13

/-- The members in the order of their values. -/
def Indication.all : List Indication :=
  [.gasAL1, .gasAL2, .gasBL1, .gasBL2, .smokeA, .smokeB, .heatHigh, .heatRise, .manual,
   .gasAFault, .gasBFault, .smokeAFault, .smokeBFault]

/-- The numbers of the causes (R70); NONE is 0. -/
def Cause.code : Cause → Nat
  | .none => 0 | .member i => i.code | .escalation => 14 | .countdownEnd => 15 | .panelDischarged => 16
  | .fallBack => 17 | .maintClear => 18 | .lockoutStart => 19

/-- The cause of a number (R70). -/
def Cause.ofCode : Nat → Option Cause
  | 0 => some .none | 1 => some (.member .gasAL1) | 2 => some (.member .gasAL2) | 3 => some (.member .gasBL1)
  | 4 => some (.member .gasBL2) | 5 => some (.member .smokeA) | 6 => some (.member .smokeB) | 7 => some (.member .heatHigh)
  | 8 => some (.member .heatRise) | 9 => some (.member .manual) | 10 => some (.member .gasAFault)
  | 11 => some (.member .gasBFault) | 12 => some (.member .smokeAFault) | 13 => some (.member .smokeBFault)
  | 14 => some .escalation | 15 => some .countdownEnd | 16 => some .panelDischarged | 17 => some .fallBack
  | 18 => some .maintClear | 19 => some .lockoutStart | _ => none

/-- The numbers of the connection states (section 9.1). -/
def ConnPhase.code : ConnPhase → Nat
  | .opened => 0 | .waitPermit => 1 | .precharging => 2 | .dcClosed => 3 | .connected => 4
  | .rideThrough => 5 | .disconnecting => 6 | .tripped => 7 | .locked => 8

/-- The connection state of a number. -/
def ConnPhase.ofCode : Nat → Option ConnPhase
  | 0 => some .opened | 1 => some .waitPermit | 2 => some .precharging | 3 => some .dcClosed | 4 => some .connected
  | 5 => some .rideThrough | 6 => some .disconnecting | 7 => some .tripped | 8 => some .locked | _ => none

/-- The numbers of the purposes (R120). -/
def Purpose.code : Purpose → Nat
  | .precharge => 1 | .coolStage => 2 | .heatStage => 3

/-- The purpose of a number. -/
def Purpose.ofCode : Nat → Option Purpose
  | 1 => some .precharge | 2 => some .coolStage | 3 => some .heatStage | _ => none

/-- The numbers of the dispatch modes (R120). -/
def DispatchMode.code : DispatchMode → Nat
  | .run => 1 | .hold => 2 | .stop => 3

/-- The dispatch mode of a number. -/
def DispatchMode.ofCode : Nat → Option DispatchMode
  | 1 => some .run | 2 => some .hold | 3 => some .stop | _ => none

/-- The kind of a sending station by its number (R120). -/
def StationKind.ofCode : Nat → Option StationKind
  | 1 => some .container | 2 => some .gateway | _ => none

/-- A set of members as bits: member v is bit v - 1 (R120, R194). -/
def indicationBits (set : List Indication) : Nat :=
  (set.map fun i => 2 ^ (i.code - 1)).foldl (· + ·) 0

/-- The members whose bits are set. -/
def indicationsOfBits (bits : Nat) : List Indication :=
  Indication.all.filter fun i => bits.testBit (i.code - 1)

/-- A flag as a number. -/
def flagNat (b : Bool) : Nat := if b then 1 else 0

/-! ## Notices and the working state -/

/-- Notices of the permit unit to the client whose need has the purpose (section 8.1). -/
inductive Notice where
  | held (p : Purpose)
  | cleared (p : Purpose)
  | ended (p : Purpose)
  deriving DecidableEq, Repr

/-- The state a command's effects run on: the part, the notices not yet taken by their clients, and the contactor and enable outputs
that the command has switched so far, in their order (R169). -/
structure Work extends State where
  notices : List Notice
  switched : List (DriveOutput × Bool)
  deriving DecidableEq, Repr

/-- The working state at the start of a command. -/
def Work.start (s : State) : Work := { s with notices := [], switched := [] }

/-- Every block has started (R190). -/
def Work.running (w : Work) : Bool := decide (w.loader.phase = .running)

/-- The start is CONFIGURED and every block has started (R190). -/
def Work.configured (w : Work) : Bool := w.running && decide (w.loader.startKind = some .configured)

/-- The uptime as it stands at the event (R192). -/
def Work.now (w : Work) : Nat := w.loader.uptime

/-- The own number (R186). -/
def Work.own (w : Work) : Nat := w.loader.straps

/-- Does an effect only when a condition holds. -/
def Work.onlyIf (c : Bool) (f : Work → Work) (w : Work) : Work := if c then f w else w

/-- The peer table entry of a station number. -/
def Work.peer (w : Work) (n : Nat) : PeerEntry := w.peers.entries.getD (n - 1) .reset

/-- The station numbers 1 to 30 with their entries. -/
def numberedPeers (entries : List PeerEntry) : List (Nat × PeerEntry) :=
  (List.range 30).map fun i => (i + 1, entries.getD i .reset)

end Sys2Proof.Machine
end

