-- ==== Sys2Proof/Machine/Charge.lean ====
section
/-! DEFINITION. Charge accounting (chapter 2.1): the start estimate, the integration of samples, and the calibrations at full and at
empty. -/

namespace Sys2Proof.Machine

/-- Changes the charge accounting unit's own state. -/
def updateCharge (f : ChargeState → ChargeState) (w : Work) : Work := { w with charge := f w.charge }

/-- R30: SOC from Q, truncated. -/
def socOf (q qFull : Nat) : Nat := q * 1000 / qFull

/-- R30: Q changes, and SOC is derived again. -/
def ChargeState.setQ (c : ChargeState) (q qFull : Nat) : ChargeState := { c with q := q, soc := socOf q qFull }

/-! ## The start estimate (R28) -/

/-- R28: the estimate in permille from entry `i` of the OCV table on, for a voltage not below entry `i`. -/
def ocvFrom (v : Nat) : Nat → List Nat → Nat
  | i, a :: b :: rest => if v < b then 100 * i + 100 * (v - a) / (b - a) else ocvFrom v (i + 1) (b :: rest)
  | _, _ => 1000

/-- R28: the estimate in permille of an average cell voltage. -/
def ocvEstimate (table : List Nat) (v : Nat) : Nat := if v < table.getD 0 0 then 0 else ocvFrom v 0 table

/-- R28: the average cell voltage of a summary; without a cell the spec gives none, and the value is free (log entry 9). -/
def averageCell (s : Summary) (freeCount : Nat) : Nat :=
  if s.cellCount = 0 then Config.averageOfNoCells freeCount else s.stringV / s.cellCount

/-- R28: the start estimate, at the first publication after reset. -/
def startEstimate (s : Summary) (w : Work) : Work :=
  let qFull := w.loader.cfg.qFull
  let estimate := ocvEstimate w.loader.cfg.ocv (averageCell s w.freeCount)
  let w := { w with freeCount := if s.cellCount = 0 then w.freeCount + 1 else w.freeCount }
  updateCharge (fun c =>
    { c.setQ (qFull * estimate / 1000) qFull with
      condition := .counting
      lastKind := .startEstimate
      lastUptime := w.now }) w

/-! ## Calibration at full (R31) -/

/-- R31: V_cal_full, in mV. -/
def vCalFull : Nat := 3500

/-- R32: V_cal_empty, in mV. -/
def vCalEmpty : Nat := 2900

/-- R31: the part of the condition that the latest summary gives. -/
def summaryFull (s : Option Summary) : Bool :=
  match s with
  | some s => (s.vMax.any fun x => decide (vCalFull ≤ x.mv)) && decide (s.staleCount = 0) && !s.visibilityLost
  | none => false

/-- R31: the full-calibration condition. -/
def fullCondition (w : Work) : Bool :=
  decide (w.charge.condition = .counting)
    && summaryFull w.scan.summary && !w.scan.visibilityLost
    && decide (-100 < w.analog.sample ∧ w.analog.sample ≤ 0) && !w.analog.overRange

/-- R31: the condition is tested: it starts the timer when armed, and its failing stops the timer and arms it. -/
def testFull (w : Work) : Work :=
  if fullCondition w then
    updateCharge (fun c => if c.armed && c.fullTimer.isNone then { c with fullTimer := some 0 } else c) w
  else updateCharge (fun c => { c with fullTimer := none, armed := true }) w

/-- R31: the timer reaches 30 s with the condition still true. -/
def calibrateFull (w : Work) : Work :=
  if w.charge.fullTimer.isSome then
    updateCharge (fun c =>
      { c.setQ w.loader.cfg.qFull w.loader.cfg.qFull with
        uncertain := false
        lastKind := .full
        lastUptime := w.now
        fullTimer := none
        armed := false }) w
  else w

/-! ## Calibration at empty (R32) -/

/-- R32: a summary that raises the empty-calibration count. -/
def summaryEmpty (s : Summary) : Bool :=
  (s.vMin.any fun x => decide (x.mv ≤ vCalEmpty)) && decide (s.staleCount = 0) && !s.visibilityLost

/-- R32: the test of a summary, in COUNTING. -/
def testEmpty (s : Summary) (w : Work) : Work :=
  if w.charge.condition = .counting then
    if summaryEmpty s then
      let count := satSucc 3 w.charge.emptyCount
      if count = 3 ∧ w.charge.emptyCount ≠ 3 then
        updateCharge (fun c =>
          { c.setQ 0 w.loader.cfg.qFull with
            uncertain := false
            emptyCount := 3
            lastKind := .empty
            lastUptime := w.now }) w
      else updateCharge (fun c => { c with emptyCount := count }) w
    else updateCharge (fun c => { c with emptyCount := 0 }) w
  else w

/-! ## Events -/

/-- R28, R31, R32: a string summary is published. -/
def chargeSummary (s : Summary) (w : Work) : Work :=
  testFull (testEmpty s (if w.charge.condition = .noEstimate then startEstimate s w else w))

/-- R29: Q less the sample, clamped to 0..Qfull. -/
def integrate (q : Nat) (sample : Int) (qFull : Nat) : Nat := (clampInt 0 qFull (q - sample)).toNat

/-- R27, R29, R31: a current sample arrives. -/
def chargeSample (w : Work) : Work :=
  if w.charge.condition = .counting then
    testFull (updateCharge (fun c =>
      let c := c.setQ (integrate c.q w.analog.sample w.loader.cfg.qFull) w.loader.cfg.qFull
      { c with uncertain := c.uncertain || w.analog.overRange }) w)
  else w

/-- R18, R31: VISIBILITY_LOST is reported. -/
def chargeVisibility (w : Work) : Work := if w.charge.condition = .counting then testFull w else w

end Sys2Proof.Machine
end

