-- ==== Sys2Proof/Machine/Balance.lean ====
section
/-! DEFINITION. Balancing (chapter 2.2): quiet rounds, the evaluation, the inhibits, and bleed time. -/

namespace Sys2Proof.Machine

/-- Changes the balancing unit's own state. -/
def updateBalance (f : BalanceState → BalanceState) (w : Work) : Work := { w with balance := f w.balance }

/-- R13, R39: a cell's value: the primary reading, or the substituted value for a SUBSTITUTED cell. `i` counts from 0. -/
def ModuleRecord.cellValue (m : ModuleRecord) (i : Nat) : Nat :=
  if m.channels.getD i .good = .substituted then m.subst.getD (m.cells.getD i 0) else m.cells.getD i 0

/-- The values of a module's 20 cells. -/
def ModuleRecord.values (m : ModuleRecord) : List Nat := (List.range 20).map m.cellValue

/-- Empties every bleed set. -/
def noSets : List (List Nat) := List.replicate 16 []

/-- R37, R38: the temperature at which a module is HOT, in 0.1 °C. -/
def hotTemp : Int := 450

/-! ## Quiet rounds (R36) -/

/-- R36: balancing is active when some bleed set is not empty. -/
def BalanceState.active (b : BalanceState) : Bool := b.sets.any fun s => !s.isEmpty

/-- R36: the phase after a round start. -/
def BalanceState.nextPhase (b : BalanceState) : Nat := if b.active then (b.phase + 1) % 4 else 0

/-! ## The evaluation (R37 to R39) -/

/-- R37, R40: the latest sample allows balancing. -/
def currentAllows (a : AnalogState) : Bool := decide (a.sample.natAbs ≤ 500) && !a.overRange

/-- R37: V_max_cell ≥ 3400 mV. A summary without any cell has no V_max_cell, and the condition then fails: the model's choice (log entry
18). -/
def voltageAllows (s : Option Summary) : Bool := (s.bind (·.vMax)).any fun x => decide (3400 ≤ x.mv)

/-- R37: the result of the string-wide conditions, in the table's order. -/
def stringResult (w : Work) : BalanceResult :=
  if w.hazard.level.isPre then .idleHazard
  else if !currentAllows w.analog then .idleCurrent
  else if !voltageAllows w.scan.summary then .idleVoltage
  else .balancing

/-- A module's highest valid temperature in the summary is below 45.0 °C; one without any fails the test. -/
def coolEnough (maximum : Option Int) : Bool :=
  match maximum with
  | some t => decide (t < hotTemp)
  | none => false

/-- R38: the exclusion reason of a module. -/
def exclusionOf (m : ModuleRecord) (maximum : Option Int) : Exclusion :=
  if !m.hasData then .noData
  else if m.check ≠ .normal then .notNormal
  else if m.stale then .stale
  else if !coolEnough maximum then .hot
  else .none

/-- R39: of two candidates (value, index), the first ranks above the second. -/
def bleedsBefore (a b : Nat × Nat) : Bool := decide (b.1 < a.1 ∨ (a.1 = b.1 ∧ a.2 < b.2))

/-- R39: the candidates of a module: value and index of each cell strictly above the target. -/
def candidates (m : ModuleRecord) (target : Nat) : List (Nat × Nat) :=
  (mapFrom (fun i v => (v, i + 1)) 0 m.values).filter fun c => decide (target < c.1)

/-- R39: the first 8 candidates in the ranking, in the order of their indices. -/
def bleedSet (m : ModuleRecord) (target : Nat) : List Nat :=
  let all := candidates m target
  (all.filter fun c => decide ((all.filter fun d => bleedsBefore d c).length < 8)).map (·.2)

/-- The exclusion reason of position `i` (from 0) in an evaluation that balances. -/
def reasonAt (w : Work) (i : Nat) (m : ModuleRecord) : Exclusion :=
  if i < w.loader.cfg.moduleCount then exclusionOf m ((w.scan.summary.map (·.maxima)).getD [] |>.getD i none) else .none

/-- R38, R39: the bleed set of position `i` (from 0) in an evaluation that balances. -/
def setAt (w : Work) (target i : Nat) (m : ModuleRecord) : List Nat :=
  if i < w.loader.cfg.moduleCount ∧ reasonAt w i m = .none then bleedSet m target else []

/-- R39: the target: V_min_cell of the summary plus the band. -/
def bleedTarget (w : Work) : Nat := ((w.scan.summary.bind (·.vMin)).map (·.mv)).getD 0 + w.loader.cfg.band

/-- R35, R37 to R39: the evaluation timer reaches 60 s. -/
def evaluateBalance (w : Work) : Work :=
  if w.balance.evalTimer.isSome then
    let result := stringResult w
    if result = .balancing then
      let target := bleedTarget w
      updateBalance (fun b =>
        { b with
          evalTimer := some 0
          result := result
          target := some target
          reasons := mapFrom (reasonAt w) 0 w.scan.modules
          sets := mapFrom (setAt w target) 0 w.scan.modules }) w
    else
      updateBalance (fun b =>
        { b with
          evalTimer := some 0
          result := result
          target := none
          reasons := List.replicate 16 .none
          sets := noSets }) w
  else w

/-- R35: the timer starts at the publication of the first summary. -/
def balanceSummary (w : Work) : Work :=
  updateBalance (fun b => if b.evalTimer.isNone then { b with evalTimer := some 0 } else b) w

/-! ## Inhibits (R40, R41) -/

/-- R40: an inhibit empties every bleed set and gives the result. -/
def inhibit (result : BalanceResult) (w : Work) : Work :=
  updateBalance (fun b => { b with sets := noSets, result := result, target := none }) w

/-- R40: a current sample arrives. -/
def balanceSample (w : Work) : Work := if currentAllows w.analog then w else inhibit .idleCurrent w

/-- R40: the hazard level changes. -/
def balanceHazardReport (w : Work) : Work := if w.hazard.level.isPre then inhibit .idleHazard w else w

/-- R41: a module leaves NORMAL: its set is emptied and its reason becomes NOT_NORMAL. `i` counts from 0. -/
def emptySet (reason : Exclusion) (i : Nat) (b : BalanceState) : BalanceState :=
  { b with sets := changeAt (fun _ => []) i b.sets, reasons := changeAt (fun _ => reason) i b.reasons }

/-- R41: the test of position `i` (from 0) at a round completion. -/
def retestModule (w : Work) (b : BalanceState) (i : Nat) : BalanceState :=
  let m := w.scan.modules.getD i .reset
  let maximum := (w.scan.summary.map (·.maxima)).getD [] |>.getD i none
  if m.check ≠ .normal then emptySet .notNormal i b
  else if maximum.any fun t => decide (hotTemp ≤ t) then emptySet .hot i b
  else b

/-- R41: the tests at a round completion. -/
def retestSets (w : Work) : Work :=
  updateBalance (fun b => (List.range w.loader.cfg.moduleCount).foldl (retestModule w) b) w

/-! ## Bleed time (R42) -/

/-- R42: the quarter count after one more quarter. -/
def nextQuarter (q : Nat) : Nat := if q = 3 then 0 else q + 1

/-- R42: one quarter is credited to every cell of a carried set: the quarter counts. -/
def creditQuarters (carried quarters : List Nat) : List Nat :=
  mapFrom (fun i q => if i + 1 ∈ carried then nextQuarter q else q) 0 quarters

/-- R42: the seconds, which rise where a quarter count returns to 0. -/
def creditSeconds (carried quarters seconds : List Nat) : List Nat :=
  mapFrom (fun i s => if i + 1 ∈ carried ∧ quarters.getD i 0 = 3 then satSucc 65535 s else s) 0 seconds

/-- R42: the report of a module was accepted in the round. -/
def Window.wasAccepted : Window → Bool
  | .accepted _ => true
  | .notSent => false
  | .opened => false
  | .missed => false

/-- R42: the set for which position `i` (from 0) is credited in a round. -/
def creditedSet (r : Round) (i : Nat) : List Nat :=
  if (r.windows.getD i .notSent).wasAccepted then r.carried.getD i [] else []

/-- R42: bleed time is credited at a round completion. -/
def creditRound (r : Round) (w : Work) : Work :=
  updateBalance (fun b =>
    { b with
      quarters := mapFrom (fun i q => creditQuarters (creditedSet r i) q) 0 b.quarters
      seconds := mapFrom (fun i s => creditSeconds (creditedSet r i) (b.quarters.getD i []) s) 0 b.seconds }) w

end Sys2Proof.Machine
end

