-- ==== Sys2Proof/Machine/Flags.lean ====
section
/-! DEFINITION. The flags that rules derive from other state: VISIBILITY_LOST (R18), SITE_MISMATCH (R139), NEIGHBOUR_ALARM (R89), the
derates (R58, R100), and the lamps (R196). -/

namespace Sys2Proof.Machine

/-- A module is LOST or BLIND (R18). -/
def ModuleRecord.unseen (m : ModuleRecord) : Bool := decide (m.check = .lost ∨ m.check = .blind)

/-- VISIBILITY_LOST: some module 1..M is LOST or BLIND (R18). -/
def visibilityLostOf (count : Nat) (modules : List ModuleRecord) : Bool := (modules.take count).any ModuleRecord.unseen

/-- SITE_MISMATCH: some entry that is not EMPTY holds MISMATCH (R139). -/
def siteMismatchOf (entries : List PeerEntry) : Bool :=
  entries.any fun e => decide (e.presence ≠ .empty ∧ e.digest = .mismatch)

/-- A last hazard level of ALARM or above. -/
def PeerEntry.alarmed (e : PeerEntry) : Bool :=
  match e.level with
  | some l => l.isAlarm
  | none => false

/-- NEIGHBOUR_ALARM: some entry that is not EMPTY holds a last hazard level of ALARM or above (R89). -/
def neighbourAlarmOf (entries : List PeerEntry) : Bool :=
  entries.any fun e => decide (e.presence ≠ .empty) && e.alarmed

/-- The thermal derate (R58). -/
def thermalDerateOf (t : ThermalState) : Nat :=
  if t.pump.failed then 0
  else if t.compressorFailed || t.fan1.failed || t.fan2.failed then 600
  else if t.auxWait then 800
  else 1000

/-- The hazard derate (R100). -/
def hazardDerateOf (level : HazardLevel) (neighbourAlarm : Bool) : Nat :=
  if level.isPre then 0 else if neighbourAlarm then 500 else 1000

/-- The visibility factor (R100). -/
def visibilityFactorOf (lost : Bool) : Nat := if lost then 0 else 1000

/-- How the RUN lamp is driven (R196). -/
def runLampMode (w : Work) : LampMode :=
  if w.running then
    if w.conn.phase = .connected then .steady
    else if w.peers.service = .inService then .flash1
    else if w.loader.listenOnly || decide (w.loader.startKind = some .unconfigured) || w.line.duplicate then .flash4
    else .off
  else .off

/-- How the ALERT lamp is driven (R196). -/
def alertLampMode (w : Work) : LampMode :=
  if w.running then
    if w.hazard.level.isAlarm then .steady
    else if w.hazard.level ≠ .clear then .flash1
    else if w.hazard.neighbourAlarm then .flash4
    else .off
  else .off

/-- The steady causes of the FAULT lamp (R196). -/
def steadyFault (w : Work) : Bool :=
  w.scan.visibilityLost || w.thermal.pump.failed || w.thermal.fan1.failed || w.thermal.fan2.failed
    || w.thermal.compressorFailed || w.hazard.releaseFault || w.hazard.writeFault || w.loader.memoryFault
    || w.conn.locks.failures

/-- How the FAULT lamp is driven (R196). -/
def faultLampMode (w : Work) : LampMode :=
  if w.running then
    if steadyFault w then .steady
    else if w.line.degraded || w.peers.siteMismatch then .flash1
    else .off
  else .off

/-- The output of a lamp whose condition changed: lit when steady, dark when off; where flashing begins is open (log entry 10). -/
def lampStart (mode : LampMode) (freeCount : Nat) : Bool :=
  match mode with
  | .off => false
  | .steady => true
  | .flash1 => Config.flashBeginsLit freeCount
  | .flash4 => Config.flashBeginsLit freeCount

/-- A lamp after an event: unchanged when its condition is, and started afresh otherwise. -/
def LampState.follow (l : LampState) (mode : LampMode) (freeCount : Nat) : LampState :=
  if l.mode = mode then l else ⟨mode, lampStart mode freeCount⟩

/-- Every lamp is driven as its condition asks. -/
def lampsSettled (w : Work) : Bool :=
  decide (w.lamps.run.mode = runLampMode w ∧ w.lamps.alert.mode = alertLampMode w ∧ w.lamps.fault.mode = faultLampMode w)

/-- R196: each lamp changes at the event that changes its condition. -/
def refreshLamps (w : Work) : Work :=
  if lampsSettled w then w
  else
    { w with
      lamps :=
        ⟨w.lamps.run.follow (runLampMode w) w.freeCount, w.lamps.alert.follow (alertLampMode w) (w.freeCount + 1),
         w.lamps.fault.follow (faultLampMode w) (w.freeCount + 2)⟩
      freeCount := w.freeCount + 3 }

end Sys2Proof.Machine
end

