-- ==== Sys2Proof/Machine/Operands.lean ====
section
/-! DEFINITION. The operands that reach the part as bytes: the frames of the station line, taken apart and put together (R117 to R120). -/

namespace Sys2Proof.Machine

/-- The content of a frame of a known kind (R120). -/
inductive Message where
  | present (kind : StationKind) (announced : Announced)
  | status (kind : StationKind) (fields : StatusFields) (level : HazardLevel)
  | hazard (level : HazardLevel) (fields : HazardFields)
  | dispatch (setpoint : Int) (ramp : Nat) (mode : DispatchMode)
  | ask (tag waits : Nat) (purpose : Purpose) (increase : Nat)
  | grant (tag : Nat)
  | defer (tag : Nat)
  | release (tag : Nat)
  | read (record inst part : Nat)
  | record
  deriving DecidableEq, Repr

/-- The parts of a complete frame (R117). -/
structure Frame where
  source : Nat
  dest : Nat
  kind : Nat
  payload : List Byte
  checkGood : Bool
  deriving DecidableEq, Repr

/-- The number of characters of a frame with `n` payload bytes (R116). -/
def frameLength (n : Nat) : Nat := 8 + n

/-- The station number that addresses every station (R117). -/
def allStations : Nat := 31

/-- Takes the characters of a complete frame apart and compares its check (R117, R118). -/
def parseFrame (chars : List Byte) : Frame :=
  let n := (chars.getD 5 0).toNat
  let body := slice chars 2 (4 + n)
  { source := (chars.getD 2 0).toNat
    dest := (chars.getD 3 0).toNat
    kind := (chars.getD 4 0).toNat
    payload := slice chars 6 n
    checkGood := slice chars (6 + n) 2 == crcBytes body }

/-- The characters of a frame (R117): preamble, source, destination, kind, length, payload, check. -/
def frameChars (source dest kind : Nat) (payload : List Byte) : List Byte :=
  let body := beBytes 1 source ++ beBytes 1 dest ++ beBytes 1 kind ++ beBytes 1 payload.length ++ payload
  [0xA5#8, 0x3C#8] ++ body ++ crcBytes body

/-- The ten kinds are known (R119). -/
def knownKind (kind : Nat) : Bool := decide (1 ≤ kind ∧ kind ≤ 10)

/-- The payload length of a kind (R119). -/
def lengthFits (kind n : Nat) : Bool :=
  match kind with
  | 1 => n == 6
  | 2 => n == 13
  | 3 => n == 5
  | 4 => n == 7
  | 5 => n == 4
  | 6 => n == 1
  | 7 => n == 1
  | 8 => n == 1
  | 9 => n == 3
  | 10 => decide (4 ≤ n ∧ n ≤ 48)
  | _ => false

/-- The kinds whose destination is one station: GRANT, DEFER, READ and RECORD (R119). -/
def toOneStation (kind : Nat) : Bool := kind == 6 || kind == 7 || kind == 9 || kind == 10

/-- The six flags as the flag field of a STATUS (R120). -/
def StatusFlags.byte (f : StatusFlags) : Nat :=
  flagNat f.socUncertain + 2 * flagNat f.neighbourAlarm + 4 * flagNat f.lineDegraded + 8 * flagNat f.auxWait
    + 16 * flagNat f.visibilityLost + 32 * flagNat f.siteMismatch

/-- The flag field of a STATUS, malformed when one of its two upper bits is set (R120). -/
def StatusFlags.ofByte (v : Nat) : Option StatusFlags :=
  if v < 64 then
    some ⟨v.testBit 0, v.testBit 1, v.testBit 2, v.testBit 3, v.testBit 4, v.testBit 5⟩
  else none

/-- Keeps a value when a condition holds. -/
def checked {α : Type} (c : Bool) (v : α) : Option α := if c then some v else none

/-- The ten bit-times of a character: a start bit at the space level (false), the eight data bits, most significant first, and a stop
bit at the mark level (R116). -/
def characterBits (c : Byte) : List Bool := false :: ((List.range 8).map fun i => c.getMsbD i) ++ [true]

/-- The bits of a frame's characters, sent back to back (R116). -/
def frameBits (chars : List Byte) : List Bool := chars.flatMap characterBits

/-- The fields of a PRESENT; a gateway's module count and converter rating are 0 (R120). -/
def decodePresent (p : List Byte) : Option Message := do
  let kind ← StationKind.ofCode (beNat (slice p 0 1))
  let m := beNat (slice p 3 1)
  let rating := beNat (slice p 4 2)
  checked (decide (m ≤ 16 ∧ rating ≤ 2000 ∧ (kind = .gateway → m = 0 ∧ rating = 0))) (.present kind ⟨beNat (slice p 1 2), m, rating⟩)

/-- The fields of a STATUS (R120). -/
def decodeStatus (p : List Byte) : Option Message := do
  let kind ← StationKind.ofCode (beNat (slice p 0 1))
  let dis := beNat (slice p 1 2)
  let chg := beNat (slice p 3 2)
  let soc := beNat (slice p 5 2)
  let aux := beNat (slice p 7 1)
  let level ← HazardLevel.ofCode (beNat (slice p 8 1))
  let conn ← ConnPhase.ofCode (beNat (slice p 9 1))
  let setpoint := beInt (slice p 10 2)
  let flags ← StatusFlags.ofByte (beNat (slice p 12 1))
  checked (decide (dis ≤ 2000 ∧ chg ≤ 2000 ∧ soc ≤ 1000 ∧ aux ≤ 30 ∧ -2000 ≤ setpoint ∧ setpoint ≤ 2000))
    (.status kind ⟨dis, chg, soc, aux, conn, setpoint, flags⟩ level)

/-- The fields of a HAZARD (R120). -/
def decodeHazard (p : List Byte) : Option Message := do
  let level ← HazardLevel.ofCode (beNat (slice p 0 1))
  let set := beNat (slice p 1 2)
  let first ← Cause.ofCode (beNat (slice p 3 1))
  let countdown := beNat (slice p 4 1)
  checked (decide (set < 8192 ∧ countdown ≤ 60)) (.hazard level ⟨indicationsOfBits set, first, countdown⟩)

/-- The fields of a DISPATCH; setpoint and ramp are passed on over their whole width (R120). -/
def decodeDispatch (p : List Byte) : Option Message := do
  let mode ← DispatchMode.ofCode (beNat (slice p 6 1))
  return .dispatch (beInt (slice p 0 4)) (beNat (slice p 4 2)) mode

/-- The fields of an ASK (R120). -/
def decodeAsk (p : List Byte) : Option Message := do
  let tag := beNat (slice p 0 1)
  let waits := beNat (slice p 1 1)
  let purpose ← Purpose.ofCode (beNat (slice p 2 1))
  let increase := beNat (slice p 3 1)
  checked (decide (tag ≤ 15 ∧ waits ≤ 7 ∧ increase ≤ 30)) (.ask tag waits purpose increase)

/-- The tag of a GRANT, DEFER or RELEASE (R120). -/
def decodeTag (p : List Byte) (f : Nat → Message) : Option Message :=
  let tag := beNat (slice p 0 1)
  checked (decide (tag ≤ 15)) (f tag)

/-- The content of a frame of a kind, or none when its length is not the kind's or a field is malformed (R119, R120). -/
def decodeMessage (kind : Nat) (p : List Byte) : Option Message :=
  if lengthFits kind p.length then
    match kind with
    | 1 => decodePresent p
    | 2 => decodeStatus p
    | 3 => decodeHazard p
    | 4 => decodeDispatch p
    | 5 => decodeAsk p
    | 6 => decodeTag p .grant
    | 7 => decodeTag p .defer
    | 8 => decodeTag p .release
    | 9 => some (.read (beNat (slice p 0 1)) (beNat (slice p 1 1)) (beNat (slice p 2 1)))
    | 10 => checked (decide (beNat (slice p 3 1) ≤ 1)) .record
    | _ => none
  else none

/-! ## Frames the part sends -/

/-- The payload of a STATUS (R120). -/
def statusPayload (f : StatusFields) (level : HazardLevel) : List Byte :=
  beBytes 1 1 ++ beBytes 2 f.dis ++ beBytes 2 f.chg ++ beBytes 2 f.soc ++ beBytes 1 f.aux ++ beBytes 1 level.code
    ++ beBytes 1 f.conn.code ++ beSigned 2 f.setpoint ++ beBytes 1 f.flags.byte

/-- The payload of a PRESENT of a container (R120, R144). -/
def presentPayload (a : Announced) : List Byte :=
  beBytes 1 1 ++ beBytes 2 a.digest ++ beBytes 1 a.moduleCount ++ beBytes 2 a.rating

/-- The payload of a HAZARD (R120). -/
def hazardPayload (f : HazardFrame) : List Byte :=
  beBytes 1 f.level.code ++ beBytes 2 (indicationBits f.set) ++ beBytes 1 f.firstCause.code ++ beBytes 1 f.countdown

/-- The payload of an ASK (R120, R153). -/
def askPayload (tag waits : Nat) (purpose : Purpose) (increase : Nat) : List Byte :=
  beBytes 1 tag ++ beBytes 1 waits ++ beBytes 1 purpose.code ++ beBytes 1 increase

end Sys2Proof.Machine
end

