-- ==== Sys2Proof/Machine/Line.lean ====
section
/-! DEFINITION. The transmit side of the line interface (chapter 6): the four stores, the frame in hand, access, and what a frame holds
when it starts to be sent. -/

namespace Sys2Proof.Machine

/-- The stores that hold a frame. -/
def LineState.holds (l : LineState) : FrameClass → Bool
  | .urgent => l.urgent.isSome
  | .permit => !l.permits.isEmpty
  | .reply => !l.replies.isEmpty
  | .routine => !l.routine.isEmpty

/-- The highest class whose store is not empty, URGENT first (R125). -/
def LineState.best (l : LineState) : Option FrameClass :=
  if l.holds .urgent then some .urgent
  else if l.holds .permit then some .permit
  else if l.holds .reply then some .reply
  else if l.holds .routine then some .routine
  else none

/-- R125: the frame in hand is taken again at each change of the stores, unless one is being sent. In the listen-only start no store
sends (R135); a frame that a store holds there is not taken in hand, and the transmitter stays IDLE: the model's choice (log entry
20). -/
def LineState.retake (listenOnly : Bool) (l : LineState) : LineState :=
  if l.tx = .sending then l
  else if listenOnly then { l with tx := .idle, inHand := none }
  else
    match l.best with
    | some c => { l with tx := .waiting, inHand := some c }
    | none => { l with tx := .idle, inHand := none }

/-- Changes the line interface's own state, the stores apart. -/
def changeLine (f : LineState → LineState) (w : Work) : Work := { w with line := f w.line }

/-- Changes the line interface and takes the frame in hand again. -/
def updateLine (f : LineState → LineState) (w : Work) : Work := changeLine (fun l => (f l).retake w.loader.listenOnly) w

/-- The class of the frame being sent, if any. -/
def LineState.sendingClass (l : LineState) : Option FrameClass := if l.tx = .sending then l.inHand else none

/-- The promotion bar of a class's oldest frame. -/
def PromotionBars.get (b : PromotionBars) : FrameClass → Bool
  | .urgent => b.urgent
  | .permit => b.permit
  | .reply => b.reply
  | .routine => b.routine

/-- Sets or clears the promotion bar of a class's oldest frame. -/
def PromotionBars.put (b : PromotionBars) (c : FrameClass) (v : Bool) : PromotionBars :=
  match c with
  | .urgent => { b with urgent := v }
  | .permit => { b with permit := v }
  | .reply => { b with reply := v }
  | .routine => { b with routine := v }

/-- The class gaps (R124), in bit-times. -/
def FrameClass.gap : FrameClass → Nat
  | .urgent => 16
  | .permit => 80
  | .reply => 144
  | .routine => 208

/-- R124: the access gap of a frame of class `c`: the class gap plus twice the own number, or plus 0 while promoted and not barred. -/
def accessGap (own : Nat) (promoted barred : Bool) (c : FrameClass) : Nat :=
  c.gap + (if promoted && !barred then 0 else 2 * own)

/-- R125: the line's idle count has reached the access gap of the frame in hand. -/
def gapReached (w : Work) : Bool :=
  match w.line.inHand with
  | some c => decide (accessGap w.own w.line.promoted (w.line.bars.get c) c ≤ w.line.idle)
  | none => false

/-! ## Placing frames -/

/-- R129: places a HAZARD frame in the urgent slot. -/
def placeHazard (f : HazardFrame) (w : Work) : Work :=
  updateLine (fun l =>
    if l.sendingClass = some .urgent then { l with urgentNext := some f }
    else { l with urgent := some f, bars := l.bars.put .urgent false }) w

/-- R130, R134, R135: whether the PERMIT store takes a frame. -/
def permitStoreTakes (w : Work) : Bool :=
  decide (w.line.permits.length < 8) && !w.line.duplicate && !w.loader.listenOnly

/-- R130: appends a frame to the PERMIT store. -/
def appendPermit (f : PermitFrame) (w : Work) : Work := updateLine (fun l => { l with permits := l.permits ++ [f] }) w

/-- R131: appends a RECORD to the REPLY store. -/
def appendReply (f : ReplyFrame) (w : Work) : Work := updateLine (fun l => { l with replies := l.replies ++ [f] }) w

/-- R132: whether a STATUS of the ROUTINE store is being sent. -/
def LineState.sendingStatus (l : LineState) : Bool :=
  decide (l.sendingClass = some .routine) && decide (l.routine.head? = some .status)

/-- R132, R134: places a request in the ROUTINE store, merged with one already held; a STATUS request placed while one is being sent
is held for a further frame; while DUPLICATE is set a request is discarded. -/
def placeRoutine (r : RoutineRequest) (w : Work) : Work :=
  if w.line.duplicate then w
  else
    updateLine (fun l =>
      if r = .status ∧ l.sendingStatus = true then { l with statusAgain := true }
      else if r ∈ l.routine then l
      else { l with routine := l.routine ++ [r] }) w

/-! ## Composing frames -/

/-- The own STATUS as it stands (R147). -/
def ownStatus (w : Work) : StatusFields where
  dis := w.limit.cDis
  chg := w.limit.cChg
  soc := w.charge.soc
  aux := w.thermal.aux
  conn := w.conn.phase
  setpoint := w.limit.setpoint
  flags :=
    { socUncertain := w.charge.uncertain
      neighbourAlarm := w.hazard.neighbourAlarm
      lineDegraded := w.line.degraded
      auxWait := w.thermal.auxWait
      visibilityLost := w.scan.visibilityLost
      siteMismatch := w.peers.siteMismatch }

/-- The own PRESENT (R144): the loaded values, or zeros in the UNCONFIGURED start. -/
def ownPresent (w : Work) : Announced :=
  if w.loader.startKind = some .configured then ⟨w.loader.digest, w.loader.cfg.moduleCount, w.loader.cfg.rating⟩ else ⟨0, 0, 0⟩

/-- The characters of a STATUS composed now (R147). -/
def statusChars (w : Work) : List Byte :=
  frameChars w.own allStations 2 (statusPayload (ownStatus w) w.hazard.level)

/-- The characters of a frame of the PERMIT store (R119, R120, R130). -/
def permitChars (w : Work) : PermitFrame → List Byte
  | .ask tag waits purpose increase => frameChars w.own allStations 5 (askPayload tag waits purpose increase)
  | .grant dest tag => frameChars w.own dest 6 (beBytes 1 tag)
  | .defer dest tag => frameChars w.own dest 7 (beBytes 1 tag)
  | .release tag => frameChars w.own allStations 8 (beBytes 1 tag)
  | .status => statusChars w

/-- The characters of the frame in hand, composed at the start of sending where its rule says so (R129 to R132). -/
def composeInHand (w : Work) : List Byte :=
  match w.line.inHand with
  | some .urgent =>
    match w.line.urgent with
    | some f => frameChars w.own allStations 3 (hazardPayload f)
    | none => []
  | some .permit =>
    match w.line.permits with
    | f :: _ => permitChars w f
    | [] => []
  | some .reply =>
    match w.line.replies with
    | f :: _ => frameChars w.own f.dest 10 f.payload
    | [] => []
  | some .routine =>
    match w.line.routine with
    | .status :: _ => statusChars w
    | .present :: _ => frameChars w.own allStations 1 (presentPayload (ownPresent w))
    | [] => []
  | none => []

/-! ## Sending (R125 to R128) -/

/-- R125: a WAITING transmitter starts sending the frame in hand once the idle count has reached its access gap. The driver takes the
line. -/
def startSending (w : Work) : Work :=
  if w.line.tx = .waiting ∧ gapReached w = true then
    changeLine (fun l => { l with tx := .sending, txBytes := composeInHand w, idle := 0, taken := true }) w
  else w

/-- R126: one deferral is counted, and the eighth promotes the station. -/
def countDeferral (w : Work) : Work :=
  changeLine (fun l =>
    { l with
      deferrals := satSucc 8 l.deferrals
      promoted := l.promoted || decide (satSucc 8 l.deferrals = 8) }) w

/-- R116: the bits that the driver puts on the line, in their order: those of the frame being sent, and none at any other time. -/
def LineState.driven (l : LineState) : List Bool := if l.tx = .sending then frameBits l.txBytes else []

/-- R127: the frame in hand goes back to its store with its promotion bar set; a HAZARD frame gives way to its next frame (R129), and
a STATUS request held behind it merges with it (R132). -/
def LineState.putBack (l : LineState) : LineState :=
  match l.inHand with
  | some .urgent =>
    match l.urgentNext with
    | some f => { l with urgent := some f, urgentNext := none, bars := l.bars.put .urgent false }
    | none => { l with bars := l.bars.put .urgent true }
  | some .routine => { l with bars := l.bars.put .routine true, statusAgain := false }
  | some c => { l with bars := l.bars.put c true }
  | none => l

/-- R128, R129, R132: the frame sent leaves its store. -/
def LineState.removeSent (l : LineState) : LineState :=
  match l.inHand with
  | some .urgent => { l with urgent := l.urgentNext, urgentNext := none, bars := l.bars.put .urgent false }
  | some .permit => { l with permits := l.permits.tail, bars := l.bars.put .permit false }
  | some .reply => { l with replies := l.replies.tail, bars := l.bars.put .reply false }
  | some .routine =>
    { l with
      routine := l.routine.tail ++ (if l.statusAgain then [.status] else [])
      statusAgain := false
      bars := l.bars.put .routine false }
  | none => l

/-- The driver is withdrawn and the receiver waits for a quiet line (R121, R127, R128). `taken`: another station still drives it. -/
def LineState.stopSending (taken : Bool) (l : LineState) : LineState :=
  { l with tx := .idle, inHand := none, txBytes := [], rx := .discard, rxBuf := [], idle := 0, taken := taken }

/-- R127: a bit is read back at another level than the one driven; the line is another station's until it falls idle. -/
def collide (w : Work) : Work :=
  if w.line.tx = .sending then updateLine (fun l => l.putBack.stopSending true) w else w

/-- R128: the frame has left the station whole; the counts are cleared and its place frees. -/
def finishSending (w : Work) : Work :=
  updateLine (fun l => { l.removeSent.stopSending false with deferrals := 0, promoted := false }) w

/-- R134: the PERMIT, REPLY and ROUTINE stores are emptied, their frames dropped unsent. -/
def emptyStores (w : Work) : Work :=
  updateLine (fun l =>
    { l with
      permits := []
      replies := []
      routine := []
      statusAgain := false
      bars := ⟨l.bars.urgent, false, false, false⟩ }) w

end Sys2Proof.Machine
end

