-- ==== Sys2Proof/Machine/Permit.lean ====
section
/-! DEFINITION. The permit unit (chapter 8): needs, the ask, holding, release, answering, abandoning and back-off. Notices to the
clients go into `Work.notices` and are taken at the end of the command (Machine/Notices.lean). -/

namespace Sys2Proof.Machine

/-- Tells a client something (section 8.1). -/
def notify (n : Notice) (w : Work) : Work := { w with notices := w.notices ++ [n] }

/-- The clients of section 8.1: the connection unit has PRECHARGE, the thermal unit the other two. -/
def Purpose.isThermal (p : Purpose) : Bool := decide (p ≠ .precharge)

/-- Changes the permit unit's own state. -/
def updatePermit (f : PermitState → PermitState) (w : Work) : Work := { w with permit := f w.permit }

/-- R159: a frame goes into the PERMIT store, and the count of free places falls. -/
def storeFrame (f : PermitFrame) (w : Work) : Work :=
  updatePermit (fun p => { p with free := p.free - 1 }) (appendPermit f w)

/-- R159: offers a frame to the PERMIT store; a refused frame is treated as not placed. -/
def offerPermit (f : PermitFrame) (w : Work) : Work := if permitStoreTakes w then storeFrame f w else w

/-- R159: at least `n` places are free, and the store takes the frame. -/
def hasRoom (n : Nat) (w : Work) : Bool := decide (n ≤ w.permit.free) && permitStoreTakes w

/-- The frame that is owed (section 8.1). -/
def owedFrame (p : PermitState) : Option PermitFrame :=
  match p.owed with
  | .none => none
  | .status => some .status
  | .release => some (.release p.tag)

/-- R159, item 2: places the own frame owed when at least one place is free. -/
def placeOwed (w : Work) : Work :=
  match owedFrame w.permit with
  | some f => if hasRoom 1 w then updatePermit (fun p => { p with owed := .none }) (storeFrame f w) else w
  | none => w

/-- R159, item 3: places owed GRANTs, oldest first, each while at least 3 places are free; the rest stay listed. -/
def placeGrants : List (Nat × Nat) → Work → Work
  | [], w => updatePermit (fun p => { p with deferred := [] }) w
  | (n, tag) :: rest, w =>
    if hasRoom 3 w then placeGrants rest (storeFrame (.grant n tag) w)
    else updatePermit (fun p => { p with deferred := (n, tag) :: rest }) w

/-- The deferred list is due: the station neither asks nor holds, so it has let the permit or its claim go (chapter 8's opening, R158,
R162; DEDUCED, log entry 16). -/
def PermitPhase.grantsDue : PermitPhase → Bool
  | .idle => true
  | .backoff => true
  | .asking => false
  | .holding => false

/-- R159: the frames the unit has to place, the own frame owed ahead of every owed GRANT. -/
def serveOwed (w : Work) : Work :=
  let w := placeOwed w
  if w.permit.owed = .none ∧ w.permit.phase.grantsDue = true then placeGrants w.permit.deferred w else w

/-- R157: the station holds the permit for the oldest need in the queue, and its client is told HELD. -/
def takeHold (w : Work) : Work :=
  match w.permit.queue with
  | [] => w
  | need :: rest =>
    notify (.held need.purpose)
      (updatePermit (fun p =>
        { p with
          phase := .holding
          queue := rest
          served := some need
          heldAt := w.now
          waits := 0
          awaited := []
          deferredBy := []
          hold := some 0
          ask := none }) w)

/-- R152: an entry that an ask awaits. -/
def PeerEntry.awaitable (e : PeerEntry) : Bool :=
  decide (e.kind = .container ∧ (e.presence = .present ∨ e.presence = .silent)) && !e.alarmed

/-- R152: the awaited set made from the peer table as it stands. -/
def awaitedOf (entries : List PeerEntry) : List Nat :=
  ((numberedPeers entries).filter fun p => p.2.awaitable).map (·.1)

/-- R152: the conditions under which an ask is opened. -/
def mayOpenAsk (w : Work) : Bool :=
  w.running
    && decide (w.permit.phase = .idle)
    && !w.permit.queue.isEmpty
    && w.permit.deferred.isEmpty
    && decide (w.permit.owed = .none)
    && decide (1 ≤ w.permit.free)
    && decide (w.peers.service = .inService)
    && !w.line.degraded
    && !w.line.duplicate
    && !w.hazard.level.isAlarm
    && !w.loader.listenOnly

/-- R152, R153: opens an ask for the oldest need. -/
def openAsk (w : Work) : Work :=
  match w.permit.queue with
  | [] => w
  | need :: _ =>
    let tag := (w.permit.tag + 1) % 16
    let awaited := awaitedOf w.peers.entries
    let w := updatePermit (fun p => { p with tag := tag, phase := .asking, awaited := awaited, deferredBy := [] }) w
    let w := offerPermit (.ask tag w.permit.waits need.purpose need.increase) w
    if awaited = [] then takeHold w else w

/-- R152: opens an ask at an event at which all its conditions hold. -/
def tryOpenAsk (w : Work) : Work := if mayOpenAsk w then openAsk w else w

/-- R162: the ask is abandoned; a RELEASE is owed unless DUPLICATE is the cause. -/
def abandonAsk (w : Work) : Work :=
  serveOwed
    (updatePermit (fun p =>
      { p with
        awaited := []
        deferredBy := []
        ask := none
        waits := satSucc 7 p.waits
        owed := if w.line.duplicate then .none else .release
        phase := .backoff
        backoff := some 0 }) w)

/-- R158: the permit is released with an outcome: the last hold is recorded, a STATUS is owed, and the state becomes IDLE. -/
def releaseHold (outcome : HoldOutcome) (w : Work) : Work :=
  match w.permit.served with
  | none => w
  | some need =>
    tryOpenAsk (serveOwed
      (updatePermit (fun p =>
        { p with
          served := none
          hold := none
          lastHold := some ⟨need.purpose, outcome, p.heldAt, w.now⟩
          owed := .status
          phase := .idle }) w))

/-- R150: a client places a need; at ALARM or above it is refused and its client told CLEARED. -/
def placeNeed (need : Need) (w : Work) : Work :=
  if w.hazard.level.isAlarm then notify (.cleared need.purpose) w
  else if w.permit.queue.any (fun n => decide (n.purpose = need.purpose)) then w
  else tryOpenAsk (updatePermit (fun p => { p with queue := p.queue ++ [need] }) w)

/-- R151, R163: a client cancels its need. A need in the queue is removed, and an ask left without a need is abandoned. -/
def cancelNeed (purpose : Purpose) (w : Work) : Work :=
  if w.permit.queue.any (fun n => decide (n.purpose = purpose)) then
    let queue := w.permit.queue.filter fun n => decide (n.purpose ≠ purpose)
    let w := updatePermit (fun p => { p with queue := queue }) w
    if w.permit.phase = .asking ∧ queue = [] then abandonAsk w else w
  else w

/-- R158: a client reports completion; one that arrives while none of its needs is served is ignored. -/
def completeNeed (thermal : Bool) (outcome : HoldOutcome) (w : Work) : Work :=
  match w.permit.served with
  | some need => if need.purpose.isThermal = thermal then releaseHold outcome w else w
  | none => w

/-! ## Answers (R154, R160, R161) -/

/-- Adds an asker to the deferred list, or gives its entry the new tag (R161). -/
def listAsker (n tag : Nat) (l : List (Nat × Nat)) : List (Nat × Nat) :=
  if l.any (fun e => e.1 == n) then l.map (fun e => if e.1 = n then (n, tag) else e) else l ++ [(n, tag)]

/-- Removes an asker from the deferred list (R161). -/
def unlistAsker (n : Nat) (l : List (Nat × Nat)) : List (Nat × Nat) := l.filter fun e => decide (e.1 ≠ n)

/-- R160: of the pairs (waits, station number), the first ranks above the second. -/
def ranksAbove (waits₁ n₁ waits₂ n₂ : Nat) : Bool := decide (waits₂ < waits₁ ∨ (waits₁ = waits₂ ∧ n₁ < n₂))

/-- R160: whether an ASK is answered GRANT, by the first row that applies. -/
def grantsAsk (w : Work) (source waits : Nat) : Bool :=
  if w.hazard.level.isAlarm then true
  else
    match w.permit.phase with
    | .idle => true
    | .backoff => true
    | .holding => false
    | .asking =>
      if source ∈ w.permit.awaited then ranksAbove waits source w.permit.waits w.own else false

/-- R159 item 1, R160: an ASK is answered at its arrival. An answer that finds no free place, or is refused, counts as dropped. -/
def answerAsk (source tag waits : Nat) (purpose : Purpose) (increase : Nat) (w : Work) : Work :=
  let granted := grantsAsk w source waits
  let frame := if granted then PermitFrame.grant source tag else .defer source tag
  let w := updatePermit (fun p => { p with lastAsk := some ⟨source, tag, waits, purpose, increase, granted, w.now⟩ }) w
  if hasRoom 1 w then
    tryOpenAsk (serveOwed
      (updatePermit (fun p =>
        { p with deferred := if granted then unlistAsker source p.deferred else listAsker source tag p.deferred })
        (storeFrame frame w)))
  else updatePermit (fun p => { p with dropped := satSucc 255 p.dropped }) w

/-- R154: after each answer, the permit is held when both sets are empty. -/
def holdIfAnswered (w : Work) : Work :=
  if w.permit.awaited = [] ∧ w.permit.deferredBy = [] then takeHold w else w

/-- R154: a GRANT with the current tag while ASKING. -/
def takeGrant (source tag : Nat) (w : Work) : Work :=
  if w.permit.phase = .asking ∧ tag = w.permit.tag then
    holdIfAnswered
      (updatePermit (fun p =>
        { p with awaited := p.awaited.filter (· ≠ source), deferredBy := p.deferredBy.filter (· ≠ source) }) w)
  else w

/-- R154: a DEFER with the current tag while ASKING. -/
def takeDefer (source tag : Nat) (w : Work) : Work :=
  if w.permit.phase = .asking ∧ tag = w.permit.tag then
    holdIfAnswered
      (updatePermit (fun p =>
        { p with
          awaited := p.awaited.filter (· ≠ source)
          deferredBy := if source ∈ p.deferredBy then p.deferredBy else p.deferredBy ++ [source] }) w)
  else w

/-- R161: a RELEASE removes its source's entry when the tags are equal; a list it empties may let an ask be opened (R152). -/
def takeRelease (source tag : Nat) (w : Work) : Work :=
  tryOpenAsk
    (updatePermit (fun p => { p with deferred := p.deferred.filter fun e => decide (e ≠ (source, tag)) }) w)

/-! ## Checks and expiries (R155, R156, R158, R162) -/

/-- A peer heard within the presence time. -/
def Work.peerPresent (w : Work) (n : Nat) : Bool := decide ((w.peer n).presence = .present)

/-- R155: the check at 1 s on the ask timer. -/
def oneSecondCheck (w : Work) : Work :=
  if w.permit.phase = .asking ∧ w.permit.ask ≠ none then
    if w.permit.awaited.any w.peerPresent then abandonAsk w
    else holdIfAnswered (updatePermit (fun p => { p with awaited := [] }) w)
  else w

/-- R156: the check at 30 s on the ask timer, which stops there. -/
def thirtySecondCheck (w : Work) : Work :=
  if w.permit.phase = .asking ∧ w.permit.ask ≠ none then
    if w.permit.deferredBy.any w.peerPresent then abandonAsk w else takeHold w
  else w

/-- R158: the hold limit; the client is told ENDED and the permit is released. -/
def holdLimit (w : Work) : Work :=
  match w.permit.served with
  | some need =>
    if w.permit.phase = .holding ∧ w.permit.hold ≠ none then releaseHold .ended (notify (.ended need.purpose) w) else w
  | none => w

/-- R162: the back-off ends and the state becomes IDLE. -/
def backoffEnds (w : Work) : Work :=
  if w.permit.phase = .backoff ∧ w.permit.backoff ≠ none then
    tryOpenAsk (serveOwed (updatePermit (fun p => { p with phase := .idle, backoff := none }) w))
  else w

/-! ## Reports from other blocks (R128, R164, R165) -/

/-- R128, R153, R159: a frame of the PERMIT store has been sent. -/
def permitFrameSent (f : PermitFrame) (w : Work) : Work :=
  let free := 8 - w.line.permits.length
  let startsTimer : Bool :=
    match f with
    | .ask tag _ _ _ => decide (w.permit.phase = .asking ∧ tag = w.permit.tag ∧ w.permit.ask = none)
    | _ => false
  tryOpenAsk (serveOwed
    (updatePermit (fun p => { p with free := free, ask := if startsTimer then some 0 else p.ask }) w))

/-- R164: the own hazard level has reached ALARM or above. -/
def permitAlarm (w : Work) : Work :=
  let needs := w.permit.queue ++ w.permit.served.toList
  let w := updatePermit (fun p => { p with queue := [] }) w
  let w :=
    match w.permit.phase with
    | .asking => abandonAsk w
    | .holding => releaseHold .cleared w
    | .idle => w
    | .backoff => w
  needs.foldl (fun w n => notify (.cleared n.purpose) w) w

/-- R164: the level reaches ALARM, or falls below it and asks may be opened again. -/
def permitHazardReport (old : HazardLevel) (w : Work) : Work :=
  if w.hazard.level.isAlarm then (if old.isAlarm then w else permitAlarm w)
  else tryOpenAsk w

/-- R165: DUPLICATE is reported. -/
def permitDuplicate (w : Work) : Work :=
  let w := if w.permit.phase = .asking then abandonAsk w else w
  updatePermit (fun p => { p with deferred := [], owed := .none }) w

end Sys2Proof.Machine
end

