-- ==== Sys2Proof/Machine/LimitShare.lean ====
section
/-! DEFINITION. Limit and share (chapter 5): factors, current limits, cell power, capability, share, ramp and clamp. Every division
truncates toward zero; the quantities divided are naturals except where a sign is put on last. -/

namespace Sys2Proof.Machine

/-! ## Factors (R96, R97) -/

/-- R96: the low side of a temperature factor, from x = T_min. -/
def lowSide (b : Breakpoints) (x : Int) : Nat :=
  if x ≤ b.lowZero then 0
  else if b.lowFull ≤ x then 1000
  else (1000 * (x - b.lowZero).toNat) / (b.lowFull - b.lowZero).toNat

/-- R96: the high side of a temperature factor, from x = T_max. -/
def highSide (b : Breakpoints) (x : Int) : Nat :=
  if x ≤ b.highFull then 1000
  else if b.highZero ≤ x then 0
  else (1000 * (b.highZero - x).toNat) / (b.highZero - b.highFull).toNat

/-- R96: the temperature factor of a direction; 0 without T_min or T_max. -/
def tempFactor (b : Breakpoints) (s : Option Summary) : Nat :=
  match s with
  | some s =>
    match s.tMin, s.tMax with
    | some lo, some hi => min (lowSide b lo.value) (highSide b hi.value)
    | _, _ => 0
  | none => 0

/-- R97: the voltage factor for discharge, from x = V_min_cell. -/
def voltFactorDis (c : Settings) (x : Nat) : Nat :=
  if c.vLowTaper ≤ x then 1000
  else if x ≤ c.vEmpty then 0
  else 1000 * (x - c.vEmpty) / (c.vLowTaper - c.vEmpty)

/-- R97: the voltage factor for charge, from x = V_max_cell. -/
def voltFactorChg (c : Settings) (x : Nat) : Nat :=
  if x ≤ c.vHighTaper then 1000
  else if c.vFull ≤ x then 0
  else 1000 * (c.vFull - x) / (c.vFull - c.vHighTaper)

/-- A factor of an extreme cell; a summary without cells gives 0 (R97). The same 0 without a summary is the model's choice: R97 names only
the summary whose cell count is 0, and R96 the missing summary for the temperature factors only (DESIGN CHOICE, log entry 27). -/
def cellFactor (f : Nat → Nat) (x : Option CellAt) : Nat :=
  match x with
  | some x => f x.mv
  | none => 0

/-! ## Capability (R98 to R102) -/

/-- The summary's string voltage, 0 without a summary (DESIGN CHOICE, log entry 27). -/
def stringVoltage (s : Option Summary) : Nat :=
  match s with
  | some s => s.stringV
  | none => 0

/-- R98: the current limit of a direction. -/
def currentLimit (iMax temp volt : Nat) : Nat := iMax * min temp volt / 1000

/-- R99: the cell power of a direction. -/
def cellPower (i v : Nat) : Nat := i * v / 1000000

/-- R101: the capability of a direction. -/
def capability (present : Bool) (p derate rating : Nat) : Nat := if present then min (p * derate / 1000) rating else 0

/-- R102 step 1: stages 1 to 4 from the summary and the derates as they stand. At an update before the first summary the temperature factors
are 0 by R96; the voltage factors, and the string voltage in the cell power, are 0 by the model's choice (DESIGN CHOICE, log entry 27). -/
def recompute (cfg : Settings) (s : Option Summary) (l : LimitState) : LimitState :=
  let tempDis := tempFactor cfg.disBreak s
  let tempChg := tempFactor cfg.chgBreak s
  let voltDis := cellFactor (voltFactorDis cfg) (s.bind (·.vMin))
  let voltChg := cellFactor (voltFactorChg cfg) (s.bind (·.vMax))
  let iDis := currentLimit cfg.iMaxDis tempDis voltDis
  let iChg := currentLimit cfg.iMaxChg tempChg voltChg
  let pDis := cellPower iDis (stringVoltage s)
  let pChg := cellPower iChg (stringVoltage s)
  let derate := min l.thermalDerate (min l.hazardDerate l.visibility)
  { l with
    tempDis := tempDis
    tempChg := tempChg
    voltDis := voltDis
    voltChg := voltChg
    iDis := iDis
    iChg := iChg
    pDis := pDis
    pChg := pChg
    cDis := capability l.summaryPresent pDis derate cfg.rating
    cChg := capability l.summaryPresent pChg derate cfg.rating }

/-- R111: the immediate clamp of the setpoint to the capability of its own direction. -/
def clampSetpoint (l : LimitState) : LimitState :=
  if (l.cDis : Int) < l.setpoint then { l with setpoint := l.cDis, residue := 0 }
  else if l.setpoint < -(l.cChg : Int) then { l with setpoint := -(l.cChg : Int), residue := 0 }
  else l

/-! ## Share (R103 to R109) -/

/-- R103: the site setpoint as used. -/
def siteSetpoint (d : EffectiveDispatch) : Int := clampInt (-30000) 30000 d.setpoint

/-- R103: the dispatch ramp as used. -/
def siteRamp (d : EffectiveDispatch) : Nat := clampNat 1 10000 d.ramp

/-- R103: the share direction. -/
def shareDirection (d : EffectiveDispatch) (setpoint : Int) : ShareDirection :=
  if d.condition = .none then .none
  else if 0 < siteSetpoint d then .discharge
  else if siteSetpoint d < 0 then .charge
  else if 0 < setpoint then .discharge
  else if setpoint < 0 then .charge
  else .none

/-- R105: the SOC weight of a participant. -/
def socWeight (d : ShareDirection) (soc : Nat) (uncertain : Bool) : Nat :=
  if uncertain then 750
  else
    match d with
    | .discharge => 500 + soc / 2
    | .charge => 1000 - soc / 2
    | .none => 0

/-- C(d) of R103. -/
def capabilityIn (d : ShareDirection) (dis chg : Nat) : Nat :=
  match d with
  | .discharge => dis
  | .charge => chg
  | .none => 0

/-- R105: the weight of a participant; 0 when d is NONE. -/
def shareWeight (d : ShareDirection) (dis chg soc : Nat) (uncertain : Bool) : Nat :=
  match d with
  | .none => 0
  | _ => capabilityIn d dis chg * socWeight d soc uncertain / 1000

/-- A last hazard level at PRE_ALARM or above. -/
def PeerEntry.preAlarmed (e : PeerEntry) : Bool :=
  match e.level with
  | some l => l.isPre
  | none => false

/-- R104: the STATUS fields of an entry that participates. -/
def PeerEntry.participates (e : PeerEntry) : Option StatusFields :=
  match e.status with
  | some f =>
    if e.kind = .container ∧ e.presence = .present ∧ e.digest ≠ .mismatch ∧ f.conn = .connected ∧ e.preAlarmed = false then
      some f
    else none
  | none => none

/-- The STATUS fields of every participating peer (R104). -/
def participantsOf (entries : List PeerEntry) : List StatusFields := entries.filterMap PeerEntry.participates

/-- R105: the sum of the peers' weights. -/
def peerWeight (d : ShareDirection) (ps : List StatusFields) : Nat :=
  (ps.map fun f => shareWeight d f.dis f.chg f.soc f.flags.socUncertain).foldl (· + ·) 0

/-- R106: the target basis, the first that applies. -/
def targetBasis (connected : Bool) (d : EffectiveDispatch) (siteWeight : Nat) : TargetBasis :=
  if connected = false then .zeroNotConnected
  else if d.condition = .stale then .zeroStale
  else if siteSetpoint d = 0 then .zeroSite
  else if siteWeight = 0 then .zeroWeight
  else
    match d.mode with
    | some .stop => .stop
    | some .hold => .hold
    | some .run => .share
    | none => .zeroSite

/-- Puts the sign of a direction on a magnitude (R106). -/
def signed (d : ShareDirection) (m : Nat) : Int :=
  match d with
  | .discharge => m
  | .charge => -(m : Int)
  | .none => 0

/-- R107: the present setpoint, its magnitude reduced to |P_site|. -/
def holdTarget (setpoint : Int) (site : Nat) : Int :=
  if setpoint < 0 then -(min setpoint.natAbs site : Nat) else (min setpoint.natAbs site : Nat)

/-- R106: the target under a basis. -/
def targetOf (basis : TargetBasis) (d : ShareDirection) (site own siteWeight ownCapability : Nat) (setpoint : Int) : Int :=
  match basis with
  | .share => signed d (min (site * own / siteWeight) ownCapability)
  | .hold => holdTarget setpoint site
  | _ => 0

/-- R109: the own ramp. -/
def ownRampOf (d : EffectiveDispatch) (dir : ShareDirection) (own siteWeight : Nat) : Nat :=
  if d.condition = .none then 1
  else if siteWeight = 0 ∨ dir = .none then siteRamp d
  else max 1 (siteRamp d * own / siteWeight)

/-- Changes limit and share's own state. -/
def updateLimit (f : LimitState → LimitState) (w : Work) : Work := { w with limit := f w.limit }

/-- R108: the share computation. -/
def computeShare (w : Work) : Work :=
  let d := w.peers.dispatch
  let l := w.limit
  let connected := decide (w.conn.phase = .connected)
  let dir := shareDirection d l.setpoint
  let ps := participantsOf w.peers.entries
  let own := if connected then shareWeight dir l.cDis l.cChg w.charge.soc w.charge.uncertain else 0
  let siteWeight := own + peerWeight dir ps
  let basis := targetBasis connected d siteWeight
  updateLimit (fun l =>
    { l with
      direction := dir
      participants := ps.length + flagNat connected
      ownWeight := own
      siteWeight := siteWeight
      basis := basis
      target :=
        targetOf basis dir (siteSetpoint d).natAbs own siteWeight (capabilityIn dir l.cDis l.cChg) l.setpoint
      ownRamp := ownRampOf d dir own siteWeight }) w

/-- R102: a capability update: stages 1 to 4, the immediate clamp, the share. -/
def capabilityUpdate (w : Work) : Work :=
  computeShare (updateLimit (fun l => clampSetpoint (recompute w.loader.cfg w.scan.summary l)) w)

/-! ## Reports (R100, R112) -/

/-- R100: the thermal unit reports its derate. -/
def reportThermalDerate (w : Work) : Work :=
  if w.limit.thermalDerate = w.thermal.derate then w
  else capabilityUpdate (updateLimit (fun l => { l with thermalDerate := w.thermal.derate }) w)

/-- R100: the hazard level or NEIGHBOUR_ALARM is reported. -/
def reportHazardDerate (w : Work) : Work :=
  let derate := hazardDerateOf w.hazard.level w.hazard.neighbourAlarm
  if w.limit.hazardDerate = derate then w
  else capabilityUpdate (updateLimit (fun l => { l with hazardDerate := derate }) w)

/-- R100: VISIBILITY_LOST is reported. -/
def reportVisibilityFactor (w : Work) : Work :=
  let factor := visibilityFactorOf w.scan.visibilityLost
  if w.limit.visibility = factor then w
  else capabilityUpdate (updateLimit (fun l => { l with visibility := factor }) w)

/-- R102: a string summary is published. -/
def limitSummary (w : Work) : Work :=
  capabilityUpdate (updateLimit (fun l => { l with summaryPresent := true }) w)

/-- R112: the connection unit reports a change out of CONNECTED. -/
def leaveConnected (w : Work) : Work :=
  updateLimit (fun l => { l with setpoint := 0, residue := 0, target := 0, basis := .zeroNotConnected }) w

/-! ## Ramp (R110) -/

/-- R110 step 2: the tenths of a kW carried from step to step with those of the own ramp. -/
def rampTenths (l : LimitState) : Nat := l.residue + l.ownRamp % 10

/-- R110 step 2: the step of this period, in kW: a tenth of the own ramp, and one more where the tenths make a whole. -/
def rampKW (l : LimitState) : Nat := l.ownRamp / 10 + (if 10 ≤ rampTenths l then 1 else 0)

/-- R110 step 2: the residue that is left. -/
def rampResidue (l : LimitState) : Nat := if 10 ≤ rampTenths l then rampTenths l - 10 else rampTenths l

/-- R110 steps 2 and 3: one ramp step toward the target. -/
def rampStep (l : LimitState) : LimitState :=
  if l.setpoint = l.target then { l with residue := 0 }
  else if (l.target - l.setpoint).natAbs ≤ rampKW l then { l with setpoint := l.target, residue := 0 }
  else if l.setpoint < l.target then { l with setpoint := l.setpoint + rampKW l, residue := rampResidue l }
  else { l with setpoint := l.setpoint - rampKW l, residue := rampResidue l }

/-- R110: the expiry of the setpoint period, up to the setpoint handed to the connection unit. -/
def setpointStep (w : Work) : Work :=
  updateLimit rampStep (computeShare (updateLimit (fun l => { l with period := some 0 }) w))

end Sys2Proof.Machine
end

