-- ==== Sys2Proof/Machine/Connection.lean ====
section
/-! DEFINITION. The connection unit (chapter 9): changes of state with their drive outputs and exit record, leaving OPEN, the
sequence and its aborts, orderly disconnection, immediate open, locks, and the converter link. In the UNCONFIGURED start the unit does
not run and takes no report (R184): every entry point tests `Work.configured`. -/

namespace Sys2Proof.Machine

/-! ## Changes of state (R168, R169) -/

/-- R169: the drive outputs of a connection state. -/
def drivesOf : ConnPhase → Drives
  | .opened => ⟨false, false, false, false⟩
  | .waitPermit => ⟨false, false, false, false⟩
  | .tripped => ⟨false, false, false, false⟩
  | .locked => ⟨false, false, false, false⟩
  | .precharging => ⟨true, true, false, false⟩
  | .dcClosed => ⟨true, false, true, true⟩
  | .connected => ⟨true, false, true, true⟩
  | .rideThrough => ⟨true, false, true, true⟩
  | .disconnecting => ⟨true, false, true, true⟩

/-- The level of one output. -/
def Drives.get (d : Drives) : DriveOutput → Bool
  | .mainNegative => d.mainNegative
  | .precharge => d.precharge
  | .mainPositive => d.mainPositive
  | .enable => d.enable

/-- R169: the order at an event that closes a contactor or switches the enable on. -/
def closingOrder : List DriveOutput := [.mainNegative, .mainPositive, .precharge, .enable]

/-- R169: the order at an event that only opens contactors or switches the enable off. -/
def openingOrder : List DriveOutput := [.enable, .mainPositive, .precharge, .mainNegative]

/-- R169: the outputs that change between two sets of drives, in the order in which they change. -/
def switchesBetween (old new : Drives) : List (DriveOutput × Bool) :=
  let changed := fun o => old.get o != new.get o
  let closes := closingOrder.any fun o => changed o && new.get o
  ((if closes then closingOrder else openingOrder).filter changed).map fun o => (o, new.get o)

/-- R168: the states whose leaving records the last exit. -/
def ConnPhase.recordsExit : ConnPhase → Bool
  | .precharging => true
  | .dcClosed => true
  | .connected => true
  | .rideThrough => true
  | .disconnecting => true
  | .opened => false
  | .waitPermit => false
  | .tripped => false
  | .locked => false

/-- Changes the connection unit's own state. -/
def updateConn (f : ConnState → ConnState) (w : Work) : Work := { w with conn := f w.conn }

/-- The exit causes in the order of their values 1 to 17 (R168). -/
def ExitCause.all : List ExitCause :=
  [.stop, .preAlarm, .alarm, .visibility, .duplicate, .fastTrip, .cellHigh, .cellLow, .linkLost, .converterFault, .prechargeTimeout,
    .readyTimeout, .holdEnded, .permitCleared, .gridLost, .rideThroughExpired, .disconnected]

/-- R168: the cause of a change away from a state: the one that its rule names, and a free one of the table where no rule names one (log
entry 13). -/
def exitCause (named : Option ExitCause) (freeCount : Nat) : ExitCause :=
  named.getD (ExitCause.all.getD (Config.unnamedExit freeCount).val .disconnected)

/-- `n` free values have been taken (log entry 6). -/
def takeFree (n : Nat) (w : Work) : Work := { w with freeCount := w.freeCount + n }

/-- R168, R169: the connection unit after a change of state: drives, state timer, and the last exit, which every change away from one of the
five states records. The threshold stands in PRECHARGING only (R185). -/
def ConnState.enter (c : ConnState) (p : ConnPhase) (timer : Timer) (cause : ExitCause) (now : Nat) : ConnState :=
  { c with
    phase := p
    drives := drivesOf p
    stateTimer := timer
    threshold := none
    lastExit := if c.phase.recordsExit then some ⟨cause, c.phase, now⟩ else c.lastExit }

/-- R169: the outputs that a change to a state switches follow those that the same command has switched already. A change that switches
none leaves the list of the last event that did. -/
def recordSwitches (p : ConnPhase) (w : Work) : Work :=
  let switched := w.switched ++ switchesBetween w.conn.drives (drivesOf p)
  { w with switched := switched, conn := { w.conn with switching := if switched = [] then w.conn.switching else switched } }

/-- R112: whether a change of state leaves CONNECTED. -/
def leavesConnected (old new : ConnPhase) : Bool := decide (old = .connected ∧ new ≠ .connected)

/-- R168: a change of connection state, reported at once to limit and share (R112). `cause` is the exit cause that the rule of the change
names; without one a state that records its leaving takes a free value (log entry 13). -/
def changeState (p : ConnPhase) (timer : Timer) (cause : Option ExitCause) (w : Work) : Work :=
  let old := w.conn.phase
  let exit := exitCause cause w.freeCount
  let w := takeFree (flagNat (cause.isNone && old.recordsExit)) w
  Work.onlyIf (leavesConnected old p) leaveConnected (updateConn (fun c => c.enter p timer exit w.now) (recordSwitches p w))

/-! ## Leaving OPEN (R173) -/

/-- R82: a lockout record is present in the image. -/
def lockoutPresent (i : Option LockoutImage) : Bool :=
  match i with
  | some i => i.content.level.isSome
  | none => false

/-- R173: the conditions to leave OPEN. -/
def mayLeaveOpen (w : Work) : Bool :=
  w.configured
    && w.scan.summary.isSome
    && !w.hazard.level.isPre
    && !lockoutPresent w.hazard.image
    && !w.scan.visibilityLost
    && !w.conn.tripDischarge && !w.conn.tripCharge
    && w.conn.linkUp && w.conn.gridReached
    && decide (w.peers.dispatch.condition = .current ∧ w.peers.dispatch.mode = some .run)
    && decide (w.peers.service = .inService)
    && !w.line.duplicate

/-- R173: in OPEN, the state becomes WAIT_PERMIT at an event at which all conditions hold, and a PRECHARGE need is placed. -/
def leaveOpenTest (w : Work) : Work :=
  if w.conn.phase = .opened ∧ mayLeaveOpen w = true then
    placeNeed ⟨.precharge, 0⟩ (changeState .waitPermit none none w)
  else w

/-- An entry into OPEN, at which R173 is tested. -/
def enterOpen (cause : Option ExitCause) (w : Work) : Work := leaveOpenTest (changeState .opened none cause w)

/-! ## LOCKED and TRIPPED (R183) -/

/-- R183: while DUPLICATE is set, every change into LOCKED adds that reason. -/
def LockReasons.withDuplicate (l : LockReasons) (duplicate : Bool) : LockReasons :=
  if duplicate then { l with duplicate := true } else l

/-- No lock reason is left. -/
def LockReasons.isEmpty (l : LockReasons) : Bool := !l.failures && !l.hazard && !l.duplicate

/-- R183: a change into LOCKED with the reasons it adds. -/
def enterLocked (cause : Option ExitCause) (add : LockReasons → LockReasons) (w : Work) : Work :=
  changeState .locked none cause (updateConn (fun c => { c with locks := (add c.locks).withDuplicate w.line.duplicate }) w)

/-- Adds FAILURES. -/
def addFailures (l : LockReasons) : LockReasons := { l with failures := true }
/-- Adds HAZARD. -/
def addHazard (l : LockReasons) : LockReasons := { l with hazard := true }
/-- Adds DUPLICATE. -/
def addDuplicate (l : LockReasons) : LockReasons := { l with duplicate := true }

/-- R183: an entry into TRIPPED, where the retry delay starts; LOCKED in its place while DUPLICATE is set. -/
def enterTripped (cause : ExitCause) (w : Work) : Work :=
  if w.line.duplicate then enterLocked (some cause) id w else changeState .tripped (some 0) (some cause) w

/-- R183: when a removal leaves the set of reasons empty, the state becomes OPEN at that event. -/
def unlockIfEmpty (w : Work) : Work :=
  if w.conn.phase = .locked ∧ w.conn.locks.isEmpty = true then enterOpen none w else w

/-! ## WAIT_PERMIT and the sequence (R174 to R177) -/

/-- R174: the need is withdrawn: it is cancelled and the state becomes OPEN. -/
def withdraw (w : Work) : Work := enterOpen none (cancelNeed .precharge w)

/-- R177: the state is one of the sequence. -/
def ConnPhase.inSequence : ConnPhase → Bool
  | .precharging => true
  | .dcClosed => true
  | .opened => false
  | .waitPermit => false
  | .connected => false
  | .rideThrough => false
  | .disconnecting => false
  | .tripped => false
  | .locked => false

/-- R177: the causes counted as a failure. -/
def ExitCause.counted : ExitCause → Bool
  | .linkLost => true
  | .converterFault => true
  | .prechargeTimeout => true
  | .readyTimeout => true
  | .holdEnded => true
  | .stop => false
  | .preAlarm => false
  | .alarm => false
  | .visibility => false
  | .duplicate => false
  | .fastTrip => false
  | .cellHigh => false
  | .cellLow => false
  | .permitCleared => false
  | .gridLost => false
  | .rideThroughExpired => false
  | .disconnected => false

/-- R177: the change of state of an abort, by its cause. -/
def abortState (cause : ExitCause) (w : Work) : Work :=
  match cause with
  | .stop => changeState .opened none (some cause) w
  | .preAlarm => changeState .opened none (some cause) w
  | .visibility => changeState .opened none (some cause) w
  | .alarm => enterLocked (some cause) addHazard w
  | .duplicate => enterLocked (some cause) addDuplicate w
  | _ =>
    if cause.counted then
      let failures := min 3 (w.conn.failures + 1)
      let w := updateConn (fun c => { c with failures := failures }) w
      if failures = 3 then enterLocked (some cause) addFailures w else enterTripped cause w
    else enterTripped cause w

/-- R177: an abort: everything opens, and completion NOT_STARTED is reported to the permit unit. -/
def abort (cause : ExitCause) (w : Work) : Work :=
  leaveOpenTest (completeNeed false .notStarted (abortState cause w))

/-- R175: the entry into PRECHARGING, with the threshold fixed from the latest summary. -/
def enterPrecharging (w : Work) : Work :=
  updateConn (fun c => { c with threshold := some (stringVoltage w.scan.summary * 95 / 100) })
    (changeState .precharging (some 0) none w)

/-- R176: the entry into CONNECTED from DC_CLOSED. -/
def enterConnected (w : Work) : Work :=
  completeNeed false .started (updateConn (fun c => { c with failures := 0 }) (changeState .connected none none w))

/-! ## Notices from the permit unit -/

/-- R174: HELD reaches the connection unit. -/
def connHeld (w : Work) : Work :=
  if w.conn.phase = .waitPermit then enterPrecharging w else completeNeed false .notStarted w

/-- R174, R177: CLEARED reaches the connection unit. -/
def connCleared (w : Work) : Work :=
  if w.conn.phase = .waitPermit then enterOpen none w
  else if w.conn.phase.inSequence then abort .permitCleared w
  else w

/-- R177: ENDED reaches the connection unit. -/
def connEnded (w : Work) : Work := if w.conn.phase.inSequence then abort .holdEnded w else w

/-! ## Orderly disconnection (R180) and immediate open (R181) -/

/-- R180: the states in which an orderly cause disconnects. -/
def ConnPhase.delivers (p : ConnPhase) : Bool := decide (p = .connected ∨ p = .rideThrough)

/-- R180: a cause makes the state DISCONNECTING. -/
def enterDisconnecting (cause : ExitCause) (w : Work) : Work :=
  updateConn (fun c => { c with exitPending := some cause }) (changeState .disconnecting (some 0) (some cause) w)

/-- R168, R180: the exit cause at the normal end of an orderly disconnection: R180 names the cause that entered DISCONNECTING and R168 value
17, DISCONNECTED. Which of the two is free (log entry 13). -/
def disconnectExit (entered : Option ExitCause) (freeCount : Nat) : ExitCause :=
  if Config.endsAsDisconnected freeCount then .disconnected else entered.getD .disconnected

/-- R180: the enable goes off and the contactors open, and the disconnection has ended. -/
def finishDisconnect (w : Work) : Work :=
  let cause := some (disconnectExit w.conn.exitPending w.freeCount)
  let w := takeFree 1 (updateConn (fun c => { c with exitPending := none }) w)
  if w.line.duplicate then enterLocked cause addDuplicate w else enterOpen cause w

/-- An orderly cause in the states that can take it (R174, R177, R180). -/
def orderlyCause (cause : ExitCause) (w : Work) : Work :=
  if w.conn.phase = .waitPermit then withdraw w
  else if w.conn.phase.inSequence then abort cause w
  else if w.conn.phase.delivers then enterDisconnecting cause w
  else w

/-- R181: an immediate open in the states whose contactors are not all open. -/
def immediateOpen (cause : ExitCause) (w : Work) : Work :=
  if w.conn.phase.inSequence then abort cause w
  else if w.conn.phase.delivers || decide (w.conn.phase = .disconnecting) then
    enterTripped cause (updateConn (fun c => { c with exitPending := none }) w)
  else w

/-! ## Reports (R180 to R183) -/

/-- R182: the level is ALARM or above: everything opens and the state becomes LOCKED with the reason HAZARD. -/
def hazardLock (w : Work) : Work :=
  if w.conn.phase.inSequence then abort .alarm w
  else if w.conn.phase = .locked then
    updateConn (fun c => { c with locks := (addHazard c.locks).withDuplicate w.line.duplicate }) w
  else
    enterLocked (some .alarm) addHazard
      (updateConn (fun c => { c with exitPending := none })
        (if w.conn.phase = .waitPermit then cancelNeed .precharge w else w))

/-- R182: the hazard level reaches the connection unit at each change. -/
def connHazardReport (w : Work) : Work :=
  if w.configured then
    if w.hazard.level.isAlarm then hazardLock w
    else
      let w := updateConn (fun c => { c with locks := { c.locks with hazard := false } }) w
      if w.hazard.level = .preAlarm then orderlyCause .preAlarm (unlockIfEmpty w)
      else leaveOpenTest (unlockIfEmpty w)
  else w

/-- R180, R183: DUPLICATE is reported. -/
def connDuplicate (w : Work) : Work :=
  if w.configured then
    match w.conn.phase with
    | .opened => enterLocked none addDuplicate w
    | .tripped => enterLocked none addDuplicate w
    | .waitPermit => enterLocked none addDuplicate (cancelNeed .precharge w)
    | .locked => updateConn (fun c => { c with locks := addDuplicate c.locks }) w
    | .precharging => abort .duplicate w
    | .dcClosed => abort .duplicate w
    | .connected => enterDisconnecting .duplicate w
    | .rideThrough => enterDisconnecting .duplicate w
    | .disconnecting => w
  else w

/-- The effective dispatch has mode STOP. -/
def Work.dispatchStops (w : Work) : Bool := decide (w.peers.dispatch.mode = some .stop)

/-- R178: in CONNECTED, mode STOP at setpoint 0 is an orderly cause. -/
def stopTest (w : Work) : Work :=
  if w.conn.phase = .connected ∧ w.dispatchStops = true ∧ w.limit.setpoint = 0 then enterDisconnecting .stop w else w

/-- R174, R177, R178, R180: the effective dispatch is reported at a change of its condition or mode. -/
def connDispatchReport (w : Work) : Work :=
  if w.configured then
    if w.conn.phase = .opened then leaveOpenTest w
    else if w.conn.phase = .connected then stopTest w
    else if w.conn.phase = .rideThrough then (if w.dispatchStops then enterDisconnecting .stop w else w)
    else if w.dispatchStops || decide (w.peers.dispatch.condition = .stale) then orderlyCause .stop w
    else w
  else w

/-- R173, R180: VISIBILITY_LOST is reported. -/
def connVisibilityReport (w : Work) : Work :=
  if w.configured then
    leaveOpenTest (updateConn (fun c => { c with visibilityTimer := if w.scan.visibilityLost then some 0 else none }) w)
  else w

/-- R180: the visibility timer expires. -/
def visibilityExpires (w : Work) : Work :=
  if w.configured && w.conn.visibilityTimer.isSome then
    orderlyCause .visibility (updateConn (fun c => { c with visibilityTimer := none }) w)
  else w

/-- The fast trip latch of a direction. -/
def ConnState.setTrip (c : ConnState) (d : Direction) (v : Bool) : ConnState :=
  match d with
  | .discharge => { c with tripDischarge := v }
  | .charge => { c with tripCharge := v }

/-- R181: comparator 1 or 2 sets. -/
def connFastTrip (d : Direction) (w : Work) : Work :=
  if w.configured then
    let w := updateConn (fun c => c.setTrip d true) w
    if w.conn.phase = .waitPermit then withdraw w else immediateOpen .fastTrip w
  else w

/-- R181: the comparator reports clearing; in TRIPPED the latch stays. -/
def connFastTripClear (d : Direction) (w : Work) : Work :=
  if w.configured && decide (w.conn.phase ≠ .tripped) then leaveOpenTest (updateConn (fun c => c.setTrip d false) w) else w

/-- R181: the cell limit that a summary meets, V_max_cell first. -/
def cellLimit (s : Option Summary) : Option ExitCause :=
  if (s.bind (·.vMax)).any fun x => decide (3650 ≤ x.mv) then some .cellHigh
  else if (s.bind (·.vMin)).any fun x => decide (x.mv ≤ 2700) then some .cellLow
  else none

/-- R173, R181: a string summary is published. -/
def connSummary (w : Work) : Work :=
  if w.configured then
    match cellLimit w.scan.summary with
    | some cause => leaveOpenTest (immediateOpen cause w)
    | none => leaveOpenTest w
  else w

/-- R173: an event that can make the last condition true: a successful lockout write (R84), the end of learning (R145). -/
def connRetest (w : Work) : Work := if w.configured then leaveOpenTest w else w

/-- R183: the connection unit's maintenance clear. -/
def connMaintenanceClear (w : Work) : Work :=
  if w.configured then
    unlockIfEmpty (updateConn (fun c => { c with failures := 0, locks := { c.locks with failures := false } }) w)
  else w

/-! ## The converter link (R170 to R172) -/

/-- R171, R181: the link becomes LOST. -/
def linkLost (w : Work) : Work :=
  let w := updateConn (fun c => { c with linkUp := false, gridTimer := none, gridReached := false }) w
  if w.conn.phase = .waitPermit then withdraw w else immediateOpen .linkLost w

/-- R171: a miss is counted at the sending of a frame, when the frame before it had no accepted answer. -/
def countMiss (w : Work) : Work :=
  if w.conn.lastFrame.isSome && !w.conn.answered then
    let w := updateConn (fun c => { c with misses := satSucc 5 c.misses }) w
    if w.conn.misses = 5 ∧ w.conn.linkUp = true then linkLost w else w
  else w

/-- R170: one setpoint frame is sent; it carries the setpoint handed in CONNECTED and 0 in every other state. -/
def sendSetpoint (w : Work) : Work :=
  updateConn (fun c =>
    let seq := (c.seq + 1) % 256
    { c with
      seq := seq
      lastFrame := some (seq, if c.phase = .connected then w.limit.setpoint else 0)
      answered := false }) w

/-- R170, R171, R178: limit and share hands a setpoint. -/
def connPeriod (w : Work) : Work := if w.configured then stopTest (sendSetpoint (countMiss w)) else w

/-- R171: the tests of an answer. -/
def acceptsAnswer (c : ConnState) (a : ConverterAnswer) : Bool :=
  a.checkGood
    && (match c.lastFrame with
        | some f => f.1 == a.seqEcho
        | none => false)

/-- R171, R172: what every accepted answer does. -/
def ConnState.takeAnswer (c : ConnState) (a : ConverterAnswer) (now : Nat) : ConnState :=
  { c with
    lastAnswer := some ⟨a, now⟩
    misses := 0
    answered := true
    linkUp := true
    gridTimer := if a.grid = .healthy then (if c.gridTimer = none then some 0 else c.gridTimer) else none
    gridReached := decide (a.grid = .healthy) && c.gridReached }

/-- R179: the ride-through time passes. -/
def rideThroughExpires (w : Work) : Work := enterOpen (some .rideThroughExpired) w

/-- R179: the entry into RIDE_THROUGH; a ride-through time of 0 expires at this answer. CONNECTED is left with GRID_LOST (R168), which R177
names for such an answer (DEDUCED, log entry 13). -/
def enterRideThrough (w : Work) : Work :=
  let w := changeState .rideThrough (some 0) (some .gridLost) w
  if w.loader.cfg.rideThrough = 0 then rideThroughExpires w else w

/-- R180: the actual power has fallen below rating × 5 / 100 in magnitude. -/
def powerGone (rating : Nat) (power : Int) : Bool := decide (power.natAbs < rating * 5 / 100)

/-- R174 to R181: an accepted answer is used by the state in force; a fault goes before the grid state, and that before the rest (log entry
17). The moves from PRECHARGING to DC_CLOSED (R175), from DC_CLOSED to CONNECTED (R176) and from RIDE_THROUGH to CONNECTED (R179) have no
exit cause in the rules, and record a free one (log entry 13). -/
def useAnswer (a : ConverterAnswer) (w : Work) : Work :=
  match w.conn.phase with
  | .opened => w
  | .tripped => w
  | .locked => w
  | .waitPermit => if a.grid = .healthy then w else withdraw w
  | .precharging =>
    if a.fault then abort .converterFault w
    else if a.grid ≠ .healthy then abort .gridLost w
    else if w.conn.threshold.any fun t => decide (t ≤ a.dcLink) then changeState .dcClosed (some 0) none w
    else w
  | .dcClosed =>
    if a.fault then abort .converterFault w
    else if a.grid ≠ .healthy then abort .gridLost w
    else if a.ready then enterConnected w
    else w
  | .connected =>
    if a.fault then immediateOpen .converterFault w
    else if a.grid ≠ .healthy then enterRideThrough w
    else w
  | .rideThrough =>
    if a.fault then immediateOpen .converterFault w
    else if a.grid = .healthy then changeState .connected none none w
    else w
  | .disconnecting =>
    if a.fault then immediateOpen .converterFault w
    else if powerGone w.loader.cfg.rating a.power then finishDisconnect w
    else w

/-- R171: a converter answer arrives. -/
def connAnswer (a : ConverterAnswer) (w : Work) : Work :=
  if w.configured && acceptsAnswer w.conn a then useAnswer a (updateConn (fun c => c.takeAnswer a w.now) w) else w

/-- R172: the grid-healthy timer reaches the reconnect delay and stays there. -/
def gridDelayReached (w : Work) : Work :=
  if w.configured && w.conn.gridTimer.isSome && !w.conn.gridReached then
    leaveOpenTest
      (updateConn (fun c => { c with gridReached := true, gridTimer := some (w.loader.cfg.reconnectDelay * 1000) }) w)
  else w

/-! ## State timers (R175, R176, R179, R180, R183) -/

/-- The state timer of a state runs. -/
def stateTimerRuns (p : ConnPhase) (w : Work) : Bool :=
  w.configured && decide (w.conn.phase = p) && w.conn.stateTimer.isSome

/-- R175: 5 s have passed in PRECHARGING. -/
def prechargeTimesOut (w : Work) : Work :=
  if stateTimerRuns .precharging w then abort .prechargeTimeout w else w

/-- R176: 2 s have passed in DC_CLOSED. -/
def readyTimesOut (w : Work) : Work := if stateTimerRuns .dcClosed w then abort .readyTimeout w else w

/-- R179: the ride-through time has passed in RIDE_THROUGH. -/
def rideTimesOut (w : Work) : Work := if stateTimerRuns .rideThrough w then rideThroughExpires w else w

/-- R180: 2 s have passed in DISCONNECTING. -/
def disconnectTimesOut (w : Work) : Work := if stateTimerRuns .disconnecting w then finishDisconnect w else w

/-- R181, R183: the retry delay has passed; a latch whose comparator has cleared is cleared. -/
def retryDelayEnds (w : Work) : Work :=
  if stateTimerRuns .tripped w then
    enterOpen none
      (updateConn (fun c =>
        { c with
          tripDischarge := c.tripDischarge && w.analog.tripDischarge
          tripCharge := c.tripCharge && w.analog.tripCharge }) w)
  else w

end Sys2Proof.Machine
end

