-- ==== Sys2Proof/Machine/Lockout.lean ====
section
/-! DEFINITION. The lockout record (chapter 4.6, R191): its slots in the configuration memory, the image, and the writes through the
loader's memory port. -/

namespace Sys2Proof.Machine

/-- Changes the hazard unit's own state. -/
def updateHazard (f : HazardState → HazardState) (w : Work) : Work := { w with hazard := f w.hazard }

/-- Changes the configuration memory. -/
def updateMem (f : Memory → Memory) (w : Work) : Work := { w with mem := f w.mem }

/-- Changes the loader's and the memory port's own state. -/
def updateLoader (f : LoaderState → LoaderState) (w : Work) : Work := { w with loader := f w.loader }

/-! ## Slots (R82, R191) -/

/-- R186: the first byte of a lockout slot. -/
def slotAddress (second : Bool) : Nat := if second then 1040 else 1024

/-- R186: the length of a lockout slot. -/
def slotLength : Nat := 16

/-- R191: the level field of a slot; NONE is 0. -/
def lockoutLevelCode (l : Option HazardLevel) : Nat :=
  match l with
  | some l => l.code
  | none => 0

/-- R191: the level of a slot's level field: NONE, ALARM, RELEASING or DISCHARGED. -/
def lockoutLevelOf : Nat → Option (Option HazardLevel)
  | 0 => some none
  | 3 => some (some .alarm)
  | 4 => some (some .releasing)
  | 5 => some (some .discharged)
  | _ => none

/-- R191: the fields of a slot, before the check. -/
def slotFields (x : SlotWrite) : List Byte :=
  beBytes 1 (lockoutLevelCode x.content.level) ++ beBytes 1 x.content.cause.code ++ beBytes 4 x.content.uptime ++ beBytes 1 x.seq

/-- R191: the 16 bytes of a slot. -/
def slotBytes (x : SlotWrite) : List Byte := slotFields x ++ crcBytes (slotFields x) ++ List.replicate 7 0#8

/-- R191: the check of a slot is good. -/
def slotCheckGood (bytes : List Byte) : Bool := slice bytes 7 2 == crcBytes (slice bytes 0 7)

/-- R191: the first cause of a slot's byte; above 19, where the field has no value, it is free (log entry 25). -/
def slotCause (b : Nat) : Cause := (Cause.ofCode b).getD ((Cause.ofCode (Config.unlistedCause b).val).getD .none)

/-- R82, R191: the record of a slot, when it is valid. -/
def decodeSlot (second : Bool) (bytes : List Byte) : Option LockoutImage := do
  let level ← lockoutLevelOf (beNat (slice bytes 0 1))
  let seq := beNat (slice bytes 6 1)
  if slotCheckGood bytes && decide (seq ≤ 2) then
    some ⟨second, seq, ⟨level, slotCause (beNat (slice bytes 1 1)), beNat (slice bytes 2 4)⟩⟩
  else none

/-- R82: the newest of the valid slots. -/
def newestSlot (a b : Option LockoutImage) : Option LockoutImage :=
  match a, b with
  | some a, some b => if b.seq = (a.seq + 1) % 3 then some b else some a
  | some a, none => some a
  | none, some b => some b
  | none, none => none

/-- The bytes of a slot as the memory holds them. -/
def slotOf (m : Memory) (second : Bool) : List Byte := Memory.readBytes m (slotAddress second) slotLength

/-- R82, R85: the image that the lockout area gives at a start. -/
def imageOf (m : Memory) : Option LockoutImage :=
  newestSlot (decodeSlot false (slotOf m false)) (decodeSlot true (slotOf m true))

/-! ## Writes (R83, R84) -/

/-- R83, R84: a write or erase is requested: it goes into the write store, and a running retry with its content is dropped. -/
def requestLockout (content : LockoutContent) (w : Work) : Work :=
  updateHazard (fun h => { h with retry := none, retryContent := none })
    (updateLoader (fun l => { l with writeStore := some content }) w)

/-- R83: the slot of the next write: the one other than the newest's, or the first. -/
def targetSlot (i : Option LockoutImage) : Bool :=
  match i with
  | some i => !i.second
  | none => false

/-- R83: the sequence number of the next write: the newest's plus one, modulo 3, or 0. -/
def targetSeq (i : Option LockoutImage) : Nat :=
  match i with
  | some i => (i.seq + 1) % 3
  | none => 0

/-- R83: the port starts the write that waits, and its slot and sequence number are fixed from the image. -/
def startWrite (w : Work) : Work :=
  match w.loader.writeStore, w.loader.writing with
  | some content, none =>
    if w.running then
      updateLoader (fun l =>
        { l with
          writeStore := none
          writing := some ⟨targetSlot w.hazard.image, targetSeq w.hazard.image, content⟩
          writeTimer := some 0 }) w
    else w
  | _, _ => w

/-- R84: a write has succeeded. -/
def writeSucceeds (x : SlotWrite) (w : Work) : Work :=
  connRetest (updateHazard (fun h =>
    { h with
      image := some ⟨x.second, x.seq, x.content⟩
      writeFault := false
      retry := none
      retryContent := none }) w)

/-- R84: a write has failed. -/
def writeFails (x : SlotWrite) (w : Work) : Work :=
  updateHazard (fun h =>
    if w.loader.writeStore.isNone then
      { h with writeFault := true, retry := some 0, retryContent := some x.content }
    else { h with writeFault := true }) w

/-- R83, R191: fewer than 10 ms have passed since the start of the write in progress. -/
def LoaderState.writeInTime (l : LoaderState) : Bool := l.writeTimer.all fun ms => decide (ms < Config.lockoutWriteMs)

/-- R83, R191: the write in progress ends; the slot then holds the bytes given (log entry 12). It succeeds when the memory acknowledged
it, every byte read back is the byte written, and the readback is complete before 10 ms have passed. -/
def endWrite (acknowledged : Bool) (held : List Byte) (w : Work) : Work :=
  match w.loader.writing with
  | some x =>
    let held := held.take slotLength
    let w := updateMem (fun m => Memory.writeBytes m (slotAddress x.second) held) w
    let inTime := w.loader.writeInTime
    let w := updateLoader (fun l => { l with writing := none, writeTimer := none }) w
    if acknowledged && held == slotBytes x && inTime then writeSucceeds x w else writeFails x w
  | none => w

/-- R84: the retry timer expires, and the same content is requested again. -/
def retryWrite (w : Work) : Work :=
  match w.hazard.retry, w.hazard.retryContent with
  | some _, some content => requestLockout content w
  | _, _ => w

end Sys2Proof.Machine
end

