-- ==== Sys2Proof/Machine/Thermal.lean ====
section
/-! DEFINITION. Thermal control (chapter 3): the ladder, the compressor timers, the forced modes, the drives, the equipment monitors and
the thermal unit as a client of the start permit. -/

namespace Sys2Proof.Machine

/-- Changes the thermal unit's own state. -/
def updateThermal (f : ThermalState → ThermalState) (w : Work) : Work := { w with thermal := f w.thermal }

/-- R58: the thermal derate is recomputed, and a change is reported at once to limit and share. -/
def updateDerate (w : Work) : Work :=
  reportThermalDerate (updateThermal (fun t => { t with derate := thermalDerateOf t }) w)

/-! ## Drives (R52, R53) -/

/-- A row of the drive table (R52). -/
structure DriveRow where
  pump : Nat
  fans : Nat
  compressor : Bool
  heater : Bool
  damper : Bool
  exhaust : Bool
  aux : Nat
  deriving DecidableEq, Repr

/-- R52: the row of a stage. -/
def stageRow : Stage → DriveRow
  | .off => ⟨0, 0, false, false, false, false, 0⟩
  | .circulate => ⟨32, 0, false, false, false, false, 2⟩
  | .cool1 => ⟨48, 40, true, false, false, false, 18⟩
  | .cool2 => ⟨63, 63, true, false, false, false, 30⟩
  | .heat => ⟨32, 0, false, true, false, false, 12⟩

/-- R52: the row in force: the forced mode's when it is not NONE, and the stage's otherwise. -/
def driveRow (forced : ForcedMode) (stage : Stage) : DriveRow :=
  match forced with
  | .none => stageRow stage
  | .coolForced => ⟨63, 63, true, false, false, false, 30⟩
  | .purge => ⟨32, 63, false, false, true, true, 6⟩
  | .sealed => ⟨63, 0, false, false, false, false, 2⟩

/-- The row in force. -/
def ThermalState.row (t : ThermalState) : DriveRow := driveRow t.forced t.stage

/-- R47, R55: the compressor output is switched off. -/
def ThermalState.switchOff (t : ThermalState) : ThermalState :=
  if t.compressor then { t with compressor := false, minOff := some 0, monitor := none, confirmed := false } else t

/-- R47, R55: the compressor output is switched on; a run feedback that is active already confirms it at once. -/
def ThermalState.switchOn (t : ThermalState) : ThermalState :=
  if t.compressor then t
  else
    { t with
      compressor := true
      minOn := some 0
      monitor := if t.feedback then none else some 0
      confirmed := t.feedback }

/-- R52, R57: duties, on/off outputs and announced demand follow the row in force; a row that wants the compressor off switches it
off. -/
def ThermalState.setDrives (t : ThermalState) : ThermalState :=
  let r := t.row
  let t : ThermalState :=
    { t with
      pump := { t.pump with dutySet := r.pump }
      fan1 := { t.fan1 with dutySet := r.fans }
      fan2 := { t.fan2 with dutySet := r.fans }
      heater := r.heater
      damper := r.damper
      exhaust := r.exhaust
      aux := r.aux }
  if r.compressor then t else t.switchOff

/-- R53: the length in clocks of tick `i` of a period. -/
def tickClocks (m n i : Nat) : Nat := if i % 8 < n then m + 1 else m

/-- R53: the clocks for which a drive of duty `d` is high in a period. -/
def highClocks (m n d : Nat) : Nat := ((List.range d).map (tickClocks m n)).foldl (· + ·) 0

/-- R53: the length of a PWM period in clocks. -/
def periodClocks (m n : Nat) : Nat := 64 * m + 8 * n

/-- R54: the least duty whose windows are tested. -/
def spinDuty : Nat := 16

/-- R53: the duty set takes effect at the start of a period. -/
def DriveState.startPeriod (d : DriveState) : DriveState :=
  { d with duty := d.dutySet, low := d.low || decide (d.dutySet < spinDuty) }

/-- R54: one tach pulse is counted in the running window. -/
def DriveState.pulse (d : DriveState) : DriveState := { d with pulses := satSucc 65535 d.pulses }

/-- R54: the low-tach count after a window. A count of 5 stays until maintenance clear. -/
def DriveState.countAfter (d : DriveState) : Nat :=
  if d.lowCount = 5 then 5 else if d.low then 0 else if d.pulses < 10 then d.lowCount + 1 else 0

/-- R54: a window ends, is tested, and the next begins. -/
def DriveState.endWindow (d : DriveState) : DriveState :=
  { d with
    pulses := 0
    low := decide (d.duty < spinDuty)
    lowCount := d.countAfter
    rate := d.pulses
    failed := d.failed || decide (d.countAfter = 5) }

/-- R56: maintenance clear of a drive's fault. -/
def DriveState.clearFault (d : DriveState) : DriveState := { d with lowCount := 0, failed := false }

/-! ## The need (R59) -/

/-- R59: the purpose of a need for a stage. -/
def Stage.purpose : Stage → Purpose
  | .heat => .heatStage
  | .off => .coolStage
  | .circulate => .coolStage
  | .cool1 => .coolStage
  | .cool2 => .coolStage

/-- The need state becomes NONE, the wanted stage becomes absent and AUX_WAIT is cleared. -/
def ThermalState.dropNeed (t : ThermalState) : ThermalState :=
  { t with need := .none, wanted := none, auxWait := false, retry := none }

/-- R46, R49, R56: a need in WAITING is cancelled with the permit unit, and in RETRY the timer is stopped. -/
def giveUpNeed (w : Work) : Work :=
  let w' :=
    match w.thermal.need, w.thermal.wanted with
    | .waiting, some s => cancelNeed s.purpose w
    | _, _ => w
  updateDerate (updateThermal ThermalState.dropNeed w')

/-- R58, R59: a need is enqueued for a stage: the wanted stage is recorded, the need state becomes WAITING and AUX_WAIT is set. -/
def enqueueNeed (s : Stage) (w : Work) : Work :=
  let increase := (stageRow s).aux - (stageRow w.thermal.stage).aux
  let w := updateThermal (fun t => { t with need := .waiting, wanted := some s, auxWait := true, retry := none }) w
  placeNeed ⟨s.purpose, increase⟩ (updateDerate w)

/-! ## The ladder (R45 to R47) -/

/-- R45, R48: the coolant inlet's last valid value is at or below a limit. -/
def inletAtMost (limit : Int) (inlet : Sensor) : Bool :=
  match inlet.value with
  | some v => decide (v ≤ limit)
  | none => false

/-- R45: the wanted next stage of an evaluation. -/
def ladder (stage : Stage) (tMin tMax : Int) (inlet : Sensor) : Stage :=
  match stage with
  | .off =>
    if 280 ≤ tMax then .circulate else if tMin ≤ 50 then .heat else if inletAtMost 30 inlet then .circulate else .off
  | .circulate =>
    if 320 ≤ tMax then .cool1
    else if tMin ≤ 50 ∧ tMax < 250 then .heat
    else if tMax < 250 ∧ inletAtMost 50 inlet = false then .off
    else .circulate
  | .cool1 => if 360 ≤ tMax then .cool2 else if tMax < 290 then .circulate else .cool1
  | .cool2 => if tMax < 330 then .cool1 else .cool2
  | .heat => if 100 ≤ tMin ∨ 280 ≤ tMax then .off else .heat

/-- R45: an evaluation of the ladder; a summary without T_max or T_min gives none. -/
def evaluateLadder (w : Work) : Option Stage :=
  match w.scan.summary with
  | some s =>
    match s.tMin, s.tMax with
    | some lo, some hi => some (ladder w.thermal.stage lo.value hi.value w.analog.inlet)
    | _, _ => none
  | none => none

/-- R47: a timer of the compressor holds a step back. -/
def heldBack (t : ThermalState) (next : Stage) : Bool :=
  match t.stage, next with
  | .cool1, .circulate => t.compressor && t.minOn.isSome
  | .circulate, .cool1 => !t.compressorFailed && t.minOff.isSome
  | _, _ => false

/-- R46: the free step, in kW. -/
def freeStep : Nat := 3

/-- R52: a step of the ladder is taken and the drives are set. -/
def takeStep (next : Stage) (w : Work) : Work := updateThermal (fun t => ({ t with stage := next } : ThermalState).setDrives) w

/-- R46: the wanted next stage is handled by how it changes the aux demand. -/
def handleStep (next : Stage) (w : Work) : Work :=
  if next = w.thermal.stage ∨ heldBack w.thermal next = true then w
  else if (stageRow next).aux ≤ (stageRow w.thermal.stage).aux + freeStep then takeStep next w
  else enqueueNeed next w

/-- R46: an evaluation's result, with the wish behind a need that may have disappeared. -/
def handleWant (next : Stage) (w : Work) : Work :=
  match w.thermal.need with
  | .none => handleStep next w
  | .waiting => if w.thermal.wanted = some next then w else handleStep next (giveUpNeed w)
  | .retry => if w.thermal.wanted = some next then w else handleStep next (giveUpNeed w)
  | .starting => w

/-- R45: a string summary is published. -/
def thermalSummary (w : Work) : Work :=
  if w.thermal.forced = .none then
    match evaluateLadder w with
    | some next => handleWant next w
    | none => w
  else w

/-- R61: the retry timer expires. Where R47 holds the wanted step back, and where no maximum or minimum lets R45 give an evaluation, the
need is given up: the model's choice (log entry 23). -/
def retryExpires (w : Work) : Work :=
  if w.running && w.thermal.retry.isSome then
    match evaluateLadder w with
    | some next =>
      if w.thermal.wanted = some next ∧ heldBack w.thermal next = false then enqueueNeed next w
      else handleStep next (giveUpNeed w)
    | none => giveUpNeed w
  else w

/-! ## Forced modes (R49 to R51) -/

/-- R49: the set holds a gas cause. -/
def hasGasCause (set : List Indication) : Bool :=
  set.any fun i => decide (i = .gasAL1 ∨ i = .gasAL2 ∨ i = .gasBL1 ∨ i = .gasBL2)

/-- R49: the forced mode of a level and a cause set. -/
def forcedModeOf (level : HazardLevel) (set : List Indication) : ForcedMode :=
  if level.isAlarm then .sealed
  else if level = .preAlarm then (if hasGasCause set then .purge else .coolForced)
  else .none

/-- R51: the stage set when the forced mode returns to NONE. It is set in the UNCONFIGURED start too, although R44 says that the stage stays
OFF there until the next reset: R51 is followed over R44, the model's choice (log entry 23). -/
def stageAfter (left : ForcedMode) (compressor : Bool) : Stage :=
  match left with
  | .coolForced => if compressor then .cool2 else .circulate
  | .purge => .off
  | .sealed => .off
  | .none => .off

/-- R50: in COOL_FORCED the compressor output is wanted on; it is switched on unless it has failed or the minimum-off timer runs. -/
def ThermalState.forceCompressor (t : ThermalState) : ThermalState :=
  if t.forced = .coolForced ∧ t.compressorFailed = false ∧ t.minOff = none then t.switchOn else t

/-- R49: on entering a forced mode from NONE the unit gives up its pursuit of a stage. -/
def giveUpPursuit (w : Work) : Work :=
  if w.thermal.need = .starting then
    updateDerate (updateThermal ThermalState.dropNeed (completeNeed true .started w))
  else giveUpNeed w

/-- R49 to R52: the forced mode changes and the drives of the new row are set. -/
def enterForced (mode : ForcedMode) (w : Work) : Work :=
  let w := if w.thermal.forced = .none then giveUpPursuit w else w
  updateThermal (fun t =>
    ({ t with
        forced := mode
        stage := if mode = ForcedMode.none then stageAfter t.forced t.compressor else t.stage } : ThermalState).setDrives.forceCompressor) w

/-- R49: the hazard unit reports its level and cause set. -/
def thermalHazardReport (w : Work) : Work :=
  let mode := forcedModeOf w.hazard.level w.hazard.set
  if mode = w.thermal.forced then w else enterForced mode w

/-! ## The permit (R60 to R63) -/

/-- R60: the aux demand of an entry that counts. -/
def PeerEntry.auxCounted (e : PeerEntry) : Nat :=
  if e.kind = .container ∧ (e.presence = .present ∨ e.presence = .silent) then
    match e.status with
    | some f => f.aux
    | none => 0
  else 0

/-- R60: the peer sum. -/
def peerAuxSum (entries : List PeerEntry) : Nat := (entries.map PeerEntry.auxCounted).foldl (· + ·) 0

/-- R60: the aux budget check for a wanted stage. -/
def auxCheck (w : Work) (wanted : Stage) : AuxCheck :=
  let sum := peerAuxSum w.peers.entries
  let own := (stageRow wanted).aux
  let limit := w.loader.cfg.auxLimit
  ⟨sum, own, limit, decide (sum + own ≤ limit), w.now⟩

/-- R62: the step to the wanted stage switches the compressor on. -/
def ThermalState.stepSwitches (t : ThermalState) (wanted : Stage) : Bool :=
  (stageRow wanted).compressor && !t.compressor && !t.compressorFailed

/-- R62: the step of a check that passes. The need state becomes STARTING where the step switches the compressor on and its feedback
is still awaited. A minimum-off timer that still runs, as it can after COMPRESSOR_FAILED was cleared while the need was WAITING, does not
keep the compressor off: the model's choice (log entry 23). -/
def ThermalState.permittedStep (t : ThermalState) (wanted : Stage) : ThermalState :=
  let next := ({ t.dropNeed with stage := wanted } : ThermalState).setDrives
  if t.stepSwitches wanted then { next.switchOn with need := if t.feedback then .none else .starting } else next

/-- R60 to R62: the permit unit tells the thermal unit HELD. -/
def thermalHeld (w : Work) : Work :=
  match w.thermal.need, w.thermal.wanted with
  | .waiting, some wanted =>
    let check := auxCheck w wanted
    let w := updateThermal (fun t => { t with lastAux := some check }) w
    if check.pass then
      let w := updateDerate (updateThermal (fun t => t.permittedStep wanted) w)
      if w.thermal.need = .starting then w else completeNeed true .started w
    else
      completeNeed true .notStarted
        (updateThermal (fun t => { t with need := .retry, retry := some 0 }) w)
  | _, _ => completeNeed true .notStarted w

/-- R63: the permit unit tells the thermal unit CLEARED. -/
def thermalCleared (w : Work) : Work :=
  if w.thermal.need = .none then w else updateDerate (updateThermal ThermalState.dropNeed w)

/-- R62: a STARTING need is completed. -/
def completeStarting (w : Work) : Work :=
  if w.thermal.need = .starting then
    completeNeed true .started (updateThermal (fun t => { t with need := .none }) w)
  else w

/-! ## Monitors (R54 to R56) -/

/-- R55: the run feedback input changes. -/
def feedbackChanges (active : Bool) (w : Work) : Work :=
  let w := updateThermal (fun t => { t with feedback := active }) w
  if w.running && w.thermal.compressor then
    if active then
      if w.thermal.monitor.isSome then
        completeStarting (updateThermal (fun t => { t with monitor := none, confirmed := true }) w)
      else w
    else if w.thermal.confirmed then updateThermal (fun t => { t with confirmed := false, monitor := some 0 }) w
    else w
  else w

/-- R55: the compressor start monitor reaches 10 s without the feedback. -/
def monitorExpires (w : Work) : Work :=
  if w.running && w.thermal.monitor.isSome then
    completeStarting (updateDerate (updateThermal (fun t => ({ t with compressorFailed := true } : ThermalState).switchOff) w))
  else w

/-- R47: the minimum-on timer reaches its time. -/
def minOnExpires (w : Work) : Work := if w.running then updateThermal (fun t => { t with minOn := none }) w else w

/-- R47, R50: the minimum-off timer reaches its time. -/
def minOffExpires (w : Work) : Work :=
  if w.running && w.thermal.minOff.isSome then
    updateThermal (fun t => ({ t with minOff := none } : ThermalState).forceCompressor) w
  else w

/-- Changes one PWM drive. -/
def ThermalState.onDrive (t : ThermalState) (d : PwmDrive) (f : DriveState → DriveState) : ThermalState :=
  match d with
  | .pump => { t with pump := f t.pump }
  | .fan1 => { t with fan1 := f t.fan1 }
  | .fan2 => { t with fan2 := f t.fan2 }

/-- Changes every PWM drive. -/
def ThermalState.onDrives (t : ThermalState) (f : DriveState → DriveState) : ThermalState :=
  { t with pump := f t.pump, fan1 := f t.fan1, fan2 := f t.fan2 }

/-- R54: a tach pulse of a drive. -/
def tachPulses (d : PwmDrive) (w : Work) : Work :=
  if w.running then updateThermal (fun t => t.onDrive d DriveState.pulse) w else w

/-- R54: a tach window ends. -/
def tachWindowEnds (w : Work) : Work :=
  if w.running then updateDerate (updateThermal (fun t => { t.onDrives DriveState.endWindow with tachTimer := some 0 }) w) else w

/-- R53: a PWM period starts. -/
def pwmPeriodStarts (w : Work) : Work :=
  if w.running then updateThermal (fun t => t.onDrives DriveState.startPeriod) w else w

/-- R56: a cooling stage whose compressor output is off goes back to CIRCULATE at maintenance clear. -/
def fallBackToCirculate (w : Work) : Work :=
  if w.thermal.forced = .none ∧ (w.thermal.stage = .cool1 ∨ w.thermal.stage = .cool2) ∧ w.thermal.compressor = false then
    takeStep .circulate (giveUpNeed w)
  else w

/-- R50, R56: the thermal unit's maintenance clear. -/
def thermalMaintenanceClear (w : Work) : Work :=
  let failed := w.thermal.compressorFailed
  let w := updateThermal (fun t => { t.onDrives DriveState.clearFault with compressorFailed := false }) w
  let w := fallBackToCirculate w
  updateDerate (if failed then updateThermal ThermalState.forceCompressor w else w)

end Sys2Proof.Machine
end

