-- ==== Sys2Proof/Machine/Notices.lean ====
section
/-! DEFINITION. The end of a command: the notices of the permit unit reach their clients in order, and the lamps follow. -/

namespace Sys2Proof.Machine

/-- Section 8.1: one notice reaches its client. The thermal unit takes no notice ENDED (R62: a STARTING need always completes
before the hold limit). -/
def takeNotice (n : Notice) (w : Work) : Work :=
  match n with
  | .held p => if p.isThermal then thermalHeld w else connHeld w
  | .cleared p => if p.isThermal then thermalCleared w else connCleared w
  | .ended p => if p.isThermal then w else connEnded w

/-- The notices are taken in order until none is left. A notice can bring about further ones; `fuel` bounds them (log entry 8). -/
def deliver : Nat → Work → Work
  | 0, w => w
  | fuel + 1, w =>
    match w.notices with
    | [] => w
    | n :: rest => deliver fuel (takeNotice n { w with notices := rest })

/-- The bound on the notices of one command: a client told HELD lets the permit go or uses it, so a chain of them is short. -/
def noticeFuel : Nat := 16

/-- The end of every command. -/
def finish (w : Work) : Work := refreshLamps (deliver noticeFuel w)

/-- A command's effect, with the notices it brings about and the lamps. -/
def runCommand (f : Work → Work) (s : State) : Host.Outcome State Fault Refusal :=
  .next (finish (f (Work.start s))).toState

end Sys2Proof.Machine
end

