-- ==== Sys2Proof/Machine/Hazard.lean ====
section
/-! DEFINITION. The hazard unit (chapter 4): detector inputs, the indication set, the three conditions, changes of level with what goes
with them, the timers, the release of the agent, first causes and history, the neighbour alarm and maintenance clear. -/

namespace Sys2Proof.Machine

/-! ## The indication set (R70, R71) -/

/-- The kinds of members (R70). -/
inductive IndicationKind where
  | gas | smoke | heat | manual | fault
  deriving DecidableEq, Repr

/-- R70: the kind of a member. -/
def Indication.kind : Indication → IndicationKind
  | .gasAL1 => .gas
  | .gasAL2 => .gas
  | .gasBL1 => .gas
  | .gasBL2 => .gas
  | .smokeA => .smoke
  | .smokeB => .smoke
  | .heatHigh => .heat
  | .heatRise => .heat
  | .manual => .manual
  | .gasAFault => .fault
  | .gasBFault => .fault
  | .smokeAFault => .fault
  | .smokeBFault => .fault

/-- R70: an indication in the narrow sense: a member that is no fault. -/
def Indication.isIndication (i : Indication) : Bool := decide (i.kind ≠ .fault)

/-- R70: the set with a member put in or taken out; its members stand in the order of their values. -/
def setMember (i : Indication) (present : Bool) (set : List Indication) : List Indication :=
  Indication.all.filter fun j => if j = i then present else decide (j ∈ set)

/-- R71: members that with a second one of another kind make a fire. -/
def Indication.strong (i : Indication) : Bool := decide (i = .smokeA ∨ i = .smokeB ∨ i = .gasAL2 ∨ i = .gasBL2)

/-- R71: a member that takes part in the WATCH condition. -/
def partWatch (set : List Indication) (i : Indication) : Bool := decide (i ∈ set)

/-- R71: a member that takes part in the PRE condition. -/
def partPre (set : List Indication) (i : Indication) : Bool :=
  decide (i ∈ set)
    && ((decide (i = .gasAL1 ∨ i = .gasBL1) && decide (.gasAL1 ∈ set ∧ .gasBL1 ∈ set))
      || decide (i = .gasAL2 ∨ i = .gasBL2 ∨ i = .heatHigh)
      || set.any fun j => decide (i.kind ≠ j.kind ∧ (i.kind = .smoke ∨ j.kind = .smoke)))

/-- R71: a member that takes part in the ALARM condition. -/
def partAlarm (set : List Indication) (i : Indication) : Bool :=
  decide (i ∈ set)
    && ((decide (i = .smokeA ∨ i = .smokeB) && decide (.smokeA ∈ set ∧ .smokeB ∈ set))
      || decide (i = .manual)
      || (i.isIndication && set.any fun j => j.isIndication && decide (i.kind ≠ j.kind) && (i.strong || j.strong)))

/-- R71: the WATCH condition. -/
def watchCondition (set : List Indication) : Bool := set.any (partWatch set)

/-- R71: the PRE condition. -/
def preCondition (set : List Indication) : Bool := set.any (partPre set)

/-- R71: the ALARM condition. -/
def alarmCondition (set : List Indication) : Bool := set.any (partAlarm set)

/-- R72: the highest of ALARM, PRE_ALARM and WATCH whose condition holds, and CLEAR where none does. -/
def risingLevel (set : List Indication) : HazardLevel :=
  if alarmCondition set then .alarm else if preCondition set then .preAlarm else if watchCondition set then .watch else .clear

/-- The members that take part in the condition of a level, in the order of their values. -/
def partsOf (level : HazardLevel) (set : List Indication) : List Indication :=
  match level with
  | .alarm => Indication.all.filter (partAlarm set)
  | .preAlarm => Indication.all.filter (partPre set)
  | _ => Indication.all.filter (partWatch set)

/-- The member of lowest value of a set in the order of values. -/
def lowestCause : List Indication → Cause
  | [] => .none
  | i :: _ => .member i

/-- R70: the cause of a change that the set brings about: the lowest of the members that entered at the event and take part in the
condition, and the lowest that takes part where none of them does (log entry 15). -/
def causeOf (level : HazardLevel) (set entered : List Indication) : Cause :=
  let parts := partsOf level set
  match parts.filter fun i => decide (i ∈ entered) with
  | i :: _ => .member i
  | [] => lowestCause parts

/-! ## A change of level (R76 to R79) -/

/-- R88: an entry is appended to the history of at most 16 entries. -/
def appendHistory (e : HistoryEntry) (h : List HistoryEntry) : List HistoryEntry :=
  if h.length < 16 then h ++ [e] else h.tail ++ [e]

/-- R87: the first-cause record that an entry into a level latches. -/
def firstCauseOf (w : Work) (cause : Cause) : FirstCause :=
  ⟨w.hazard.set, cause, w.scan.summary.bind (·.tMax), w.now⟩

/-- R87: a latched record is not overwritten. -/
def latch (old : Option FirstCause) (new : FirstCause) : Option FirstCause :=
  match old with
  | some r => some r
  | none => some new

/-- R77, R78: the release countdown in whole seconds, rounded up. -/
def countdownSeconds (ms : Nat) : Nat := (ms + 999) / 1000

/-- R76, R85: the episode first cause after a change; at a start in LOCKOUT it is the one taken from the record. -/
def episodeCause (old new : HazardLevel) (cause episode : Cause) : Cause :=
  if new = .clear then .none else if old = .clear ∧ new ≠ .lockout then cause else episode

/-- R73, R74, R76 to R80, R87, R88: the hazard unit's own state after a change of level. -/
def HazardState.changed (h : HazardState) (new : HazardLevel) (cause : Cause) (record : FirstCause) (releaseMs now : Nat) :
    HazardState :=
  { h with
    level := new
    firstCause := episodeCause h.level new cause h.firstCause
    history := appendHistory ⟨h.level, new, cause, now⟩ h.history
    firstPre := if new = .preAlarm then latch h.firstPre record else h.firstPre
    firstAlarm := if new = .alarm then latch h.firstAlarm record else h.firstAlarm
    countdown := releaseMs
    release := decide (new = .releasing)
    confirm := if new = .releasing then some 0 else none
    escalation := if new = .preAlarm then some 0 else none
    fallBack := none
    quiet := if new = .watch ∧ h.set = [] then some 0 else none }

/-- R76, R83: entries that request a lockout write. -/
def HazardLevel.writesLockout (l : HazardLevel) : Bool := decide (l = .alarm ∨ l = .releasing ∨ l = .discharged)

/-- R77: the HAZARD frame of the level as it stands. -/
def hazardFrameOf (h : HazardState) : HazardFrame :=
  ⟨h.level, h.set, h.firstCause, if h.level = .alarm then countdownSeconds h.countdown else 0⟩

/-- R76: the new level is reported to the blocks that read it: to the permit unit first, since at ALARM it releases a hold as CLEARED
(R164) and its clients' cancels and completions then find nothing (R151, R158); then to the others in the order in which R76 names them
(log entry 8). -/
def reportLevel (old : HazardLevel) (w : Work) : Work :=
  connHazardReport (reportHazardDerate (balanceHazardReport (thermalHazardReport (permitHazardReport old w))))

/-- R76: a change of level with what belongs to the same event. -/
def changeLevel (new : HazardLevel) (cause : Cause) (w : Work) : Work :=
  let old := w.hazard.level
  let record := firstCauseOf w cause
  let w := updateHazard (fun h => h.changed new cause record (w.loader.cfg.releaseTime * 1000) w.now) w
  let w := if new.writesLockout then requestLockout ⟨some new, w.hazard.firstCause, w.now⟩ w else w
  reportLevel old (placeHazard (hazardFrameOf w.hazard) w)

/-- R79, R80: RELEASING is entered; an input DISCHARGED that is active already moves the level on. -/
def enterReleasing (w : Work) : Work :=
  let w := changeLevel .releasing .countdownEnd w
  if w.hazard.dischargedInput.taken then changeLevel .discharged .panelDischarged w else w

/-! ## The rising transitions (R72) -/

/-- R72: the rising transitions, for the members that entered at this event. -/
def applyRising (entered : List Indication) (w : Work) : Work :=
  let new := risingLevel w.hazard.set
  if w.hazard.evaluated && !w.hazard.level.isAlarm && decide (w.hazard.level.code < new.code) then
    changeLevel new (causeOf new w.hazard.set entered) w
  else w

/-- R73: the timers of PRE_ALARM after a change of the set. -/
def HazardState.preTimers (h : HazardState) : HazardState :=
  if h.level = .preAlarm then
    if preCondition h.set then
      { h with fallBack := none, escalation := if h.escalation.isNone then some 0 else h.escalation }
    else { h with escalation := none, fallBack := if h.fallBack.isNone then some 0 else h.fallBack }
  else h

/-- R74: the quiet timer after a change of the set. -/
def HazardState.quietTimer (h : HazardState) : HazardState :=
  if h.level = .watch then
    { h with quiet := if h.set = [] then (if h.quiet.isNone then some 0 else h.quiet) else none }
  else h

/-- R70, R72 to R74: the indication set changes; it is reported to the thermal unit and the rising transitions are evaluated. -/
def changeSet (new : List Indication) (w : Work) : Work :=
  if new = w.hazard.set then w
  else
    let entered := new.filter fun i => decide (i ∉ w.hazard.set)
    let w := thermalHazardReport (updateHazard (fun h => { h with set := new }) w)
    applyRising entered (updateHazard (fun h => h.preTimers.quietTimer) w)

/-- A member enters or leaves the set. -/
def changeMember (i : Indication) (present : Bool) (w : Work) : Work := changeSet (setMember i present w.hazard.set) w

/-! ## Smoke loops (R65) -/

/-- R65: the band of a supervision input, in mV. -/
def bandOf (mv : Nat) : SmokeBand :=
  if mv < 400 then .short else if mv < 1200 then .alarmBand else if mv < 2800 then .quiescent else .opened

/-- R65: the loop state of a band. -/
def SmokeBand.state : SmokeBand → SmokeState
  | .quiescent => .normal
  | .alarmBand => .active
  | .short => .fault
  | .opened => .fault

/-- R65: the loop after its input moves to a band. -/
def SmokeLoop.moveTo (l : SmokeLoop) (running : Bool) (band : SmokeBand) : SmokeLoop :=
  { l with
    band := band
    timer :=
      if running then
        if band.state = l.state then none
        else if band.state = l.band.state ∧ l.timer.isSome = true then l.timer
        else some 0
      else l.timer }

/-- R65: the loop at the start of the hazard unit. -/
def SmokeLoop.begin (l : SmokeLoop) : SmokeLoop := { l with timer := if l.band.state = l.state then none else some 0 }

/-- R65: the loop at the end of its second. -/
def SmokeLoop.settle (l : SmokeLoop) : SmokeLoop := { l with state := l.band.state, timer := none }

/-- Changes one smoke loop. -/
def HazardState.onLoop (h : HazardState) (loop : DetectorLoop) (f : SmokeLoop → SmokeLoop) : HazardState :=
  match loop with
  | .a => { h with smokeA := f h.smokeA }
  | .b => { h with smokeB := f h.smokeB }

/-- One smoke loop. -/
def HazardState.loop (h : HazardState) : DetectorLoop → SmokeLoop
  | .a => h.smokeA
  | .b => h.smokeB

/-- R65: the indication of a smoke loop. -/
def smokeMember : DetectorLoop → Indication
  | .a => .smokeA
  | .b => .smokeB

/-- R65: the fault indication of a smoke loop. -/
def smokeFaultMember : DetectorLoop → Indication
  | .a => .smokeAFault
  | .b => .smokeBFault

/-- R65: a smoke loop's input moves to another band; the band is followed in every start. -/
def smokeBandMoves (loop : DetectorLoop) (mv : Nat) (w : Work) : Work :=
  updateHazard (fun h => h.onLoop loop fun l => l.moveTo w.running (bandOf mv)) w

/-- R65: the persistence timer of a loop reaches 1 s. -/
def smokeSettles (loop : DetectorLoop) (w : Work) : Work :=
  if (w.hazard.loop loop).timer.isSome then
    let w := updateHazard (fun h => h.onLoop loop SmokeLoop.settle) w
    let state := (w.hazard.loop loop).state
    changeSet
      (setMember (smokeFaultMember loop) (decide (state = .fault))
        (setMember (smokeMember loop) (decide (state = .active)) w.hazard.set)) w
  else w

/-! ## Contacts (R66, R195) -/

/-- R66: the terminal of a contact changes; its settling runs while the terminal stands at another level than the one taken. -/
def ContactInput.moveTo (c : ContactInput) (running active : Bool) : ContactInput :=
  { c with
    terminal := active
    timer := if running then (if active = c.taken then none else if c.timer.isSome then c.timer else some 0) else c.timer }

/-- R66: a contact at the start of the hazard unit. -/
def ContactInput.begin (c : ContactInput) : ContactInput := { c with timer := if c.terminal = c.taken then none else some 0 }

/-- R66: a contact at the end of its 100 ms. -/
def ContactInput.settle (c : ContactInput) : ContactInput := { c with taken := c.terminal, timer := none }

/-- R81, R80: the DISCHARGED input has become active. -/
def dischargedActive (w : Work) : Work :=
  if w.hazard.evaluated && decide (w.hazard.level.code ≤ 4) then changeLevel .discharged .panelDischarged w else w

/-! ## Heat (R68, R69) -/

/-- R68: HEAT_HIGH after a summary with T_max. -/
def heatHighAfter (present : Bool) (tMax : Int) : Bool := if 650 ≤ tMax then true else if tMax < 600 then false else present

/-- R68: a string summary is published. -/
def hazardSummary (s : Summary) (w : Work) : Work :=
  match s.tMax with
  | some t => changeMember .heatHigh (heatHighAfter (decide (.heatHigh ∈ w.hazard.set)) t.value) w
  | none => w

/-- R69: a sample is pushed into a ring of three. -/
def pushSample (x : Option Int) (ring : List (Option Int)) : List (Option Int) :=
  if ring.length < 3 then ring ++ [x] else ring.tail ++ [x]

/-- R69: a module's rise is 2.0 °C or more. -/
def ringRises : List (Option Int) → Bool
  | [some oldest, _, some newest] => decide (20 ≤ newest - oldest)
  | _ => false

/-- R69: the sample of position `i` (from 0). -/
def heatSample (s : Option Summary) (i : Nat) : Option Int := (s.map (·.maxima)).getD [] |>.getD i none

/-- R69: the sample timer expires. -/
def heatSamples (w : Work) : Work :=
  if w.hazard.sampleTimer.isSome then
    let push := fun i ring => if i < w.loader.cfg.moduleCount then pushSample (heatSample w.scan.summary i) ring else ring
    let w := updateHazard (fun h => { h with sampleTimer := some 0, rings := mapFrom push 0 h.rings }) w
    changeMember .heatRise (w.hazard.rings.any ringRises) w
  else w

/-! ## First evaluation (R72, R81, R86) -/

/-- R86: the re-arm case. -/
def rearms (h : HazardState) : Bool :=
  (h.image.any fun i => decide (i.content.level = some .alarm)) && alarmCondition h.set && !h.dischargedInput.taken

/-- R72: the first evaluation, 2 s after the hazard unit starts. -/
def firstEvaluation (w : Work) : Work :=
  if w.hazard.firstEval.isSome then
    let w := updateHazard (fun h => { h with firstEval := none, evaluated := true }) w
    if w.hazard.level = .lockout then
      if rearms w.hazard then changeLevel .alarm (causeOf .alarm w.hazard.set w.hazard.set) w else w
    else
      let w := applyRising w.hazard.set w
      if w.hazard.dischargedInput.taken then dischargedActive w else w
  else w

/-! ## Timers (R73, R74, R79, R80) -/

/-- R73: the escalation timer expires. -/
def escalates (w : Work) : Work := if w.hazard.escalation.isSome then changeLevel .alarm .escalation w else w

/-- R73: the fall-back timer expires. -/
def fallsBack (w : Work) : Work := if w.hazard.fallBack.isSome then changeLevel .watch .fallBack w else w

/-- R74: the quiet timer expires. -/
def quietEnds (w : Work) : Work := if w.hazard.quiet.isSome then changeLevel .clear .fallBack w else w

/-- R78: the countdown runs. -/
def HazardState.countsDown (h : HazardState) : Bool := decide (h.level = .alarm) && !h.hold.taken && !h.door.taken

/-- R79: the countdown reaches 0. -/
def countdownEnds (w : Work) : Work := if w.hazard.countsDown then enterReleasing w else w

/-- R80: the discharge confirmation timer reaches 10 s. -/
def confirmationExpires (w : Work) : Work :=
  if w.hazard.confirm.isSome then updateHazard (fun h => { h with confirm := none, releaseFault := true }) w else w

/-! ## Neighbour alarm (R89) and maintenance clear (R90, R91) -/

/-- R89: a peer's last hazard level has changed. -/
def reviewNeighbours (w : Work) : Work :=
  let alarm := neighbourAlarmOf w.peers.entries
  if alarm = w.hazard.neighbourAlarm then w
  else reportHazardDerate (updateHazard (fun h => { h with neighbourAlarm := alarm }) w)

/-- R90, R91: the first-cause records are emptied. -/
def HazardState.clearRecords (h : HazardState) : HazardState := { h with firstPre := none, firstAlarm := none }

/-- R90, R91: the hazard unit's maintenance clear, ignored while an indication is present. -/
def hazardMaintenanceClear (w : Work) : Work :=
  if w.hazard.set.any Indication.isIndication then w
  else if w.hazard.level.isAlarm then
    let w := changeLevel .clear .maintClear w
    let w := updateHazard (fun h => { h.clearRecords with releaseFault := false }) w
    applyRising w.hazard.set (requestLockout ⟨none, .none, w.now⟩ w)
  else updateHazard HazardState.clearRecords w

end Sys2Proof.Machine
end

