-- ==== Sys2Proof/Machine/Scan.lean ====
section
/-! DEFINITION. The module scan unit (chapter 1.1 to 1.4): rounds and requests, reports and misses, channel checking, substitution, the
string summary and its publication, visibility, and maintenance clear. -/

namespace Sys2Proof.Machine

/-- Changes the scan unit's own state. -/
def updateScan (f : ScanState → ScanState) (w : Work) : Work := { w with scan := f w.scan }

/-- Changes the record of position `i` (from 0). -/
def updateModule (i : Nat) (f : ModuleRecord → ModuleRecord) (w : Work) : Work :=
  updateScan (fun s => { s with modules := changeAt f i s.modules }) w

/-- The record of position `i` (from 0). -/
def Work.module (w : Work) (i : Nat) : ModuleRecord := w.scan.modules.getD i .reset

/-- The module count M. -/
def Work.count (w : Work) : Nat := w.loader.cfg.moduleCount

/-! ## Rounds (R1) -/

/-- R1: the request of module `n` (from 1) in the round. -/
def requestFor (s : ScanState) (r : Round) (n : Nat) : ModuleRequest :=
  ⟨n, s.roundNumber, (s.modules.getD (n - 1) .reset).k, r.carried.getD (n - 1) []⟩

/-- R1: a scan round starts. -/
def startRound (w : Work) : Work :=
  if w.configured && w.scan.round.isNone then
    let phase := w.balance.nextPhase
    let quiet := decide (phase = 0)
    let r : Round := ⟨quiet, if quiet then noSets else w.balance.sets, List.replicate w.count .notSent⟩
    let w := updateBalance (fun b => { b with phase := phase }) w
    updateScan (fun s =>
      let s : ScanState := { s with timer := some 0, roundNumber := (s.roundNumber + 1) % 65536, round := some r }
      { s with request := some (requestFor s r 1) }) w
  else w

/-- R1: the request on the chain has been sent; its module's window opens and the next request follows. -/
def requestSent (w : Work) : Work :=
  match w.scan.round, w.scan.request with
  | some r, some q =>
    let r : Round := { r with windows := changeAt (fun _ => .opened) (q.n - 1) r.windows }
    updateScan (fun s =>
      { s with
        answers := changeAt (fun _ => some 0) (q.n - 1) s.answers
        round := some r
        request := if q.n < w.count then some (requestFor s r (q.n + 1)) else none }) w
  | _, _ => w

/-! ## Visibility (R18) -/

/-- R18: VISIBILITY_LOST is reported to limit and share, charge accounting and the connection unit. -/
def reportVisibility (w : Work) : Work := connVisibilityReport (chargeVisibility (reportVisibilityFactor w))

/-- R18: the flag follows the check states, and a change is reported at once. -/
def reviewVisibility (w : Work) : Work :=
  let lost := visibilityLostOf w.count w.scan.modules
  if lost = w.scan.visibilityLost then w else reportVisibility (updateScan (fun s => { s with visibilityLost := lost }) w)

/-! ## Channel checking (R6 to R16) -/

/-- R16: the first fault outcome latches the error-hold record. -/
def ModuleRecord.hold (m : ModuleRecord) (e : ErrorHold) : ModuleRecord :=
  { m with errorHold := if m.errorHold.isNone then some e else m.errorHold }

/-- R7: the sum difference D. -/
def ModuleRecord.sumDifference (m : ModuleRecord) : Int := (m.total : Int) - (sumOf m.cells : Nat)

/-- R7: the check difference E against the primary reading of cell k. -/
def ModuleRecord.checkDifference (m : ModuleRecord) : Int := (m.checkReading : Int) - (m.cells.getD (m.k - 1) 0 : Nat)

/-- R8, R10, R13: cell k is confirmed, and the check-path disagreement count becomes 0. -/
def ModuleRecord.confirm (m : ModuleRecord) : ModuleRecord :=
  { m with
    disagree := 0
    channels := changeAt (fun c => if c = .suspect then .good else c) (m.k - 1) m.channels }

/-- A module in SEARCH returns to NORMAL; its search count becomes 0. -/
def ModuleRecord.endSearch (m : ModuleRecord) : ModuleRecord :=
  { m with check := if m.check = .search then .normal else m.check, search := 0 }

/-- R9: the sum agrees and the check disagrees. -/
def ModuleRecord.suspectCheck (m : ModuleRecord) (round : Nat) (d : Int) : ModuleRecord :=
  let m : ModuleRecord := { m.endSearch with disagree := satSucc 3 m.disagree }
  if m.disagree = 3 then { m with check := .degraded }.hold ⟨round, d, m.k, .checkPathDegraded⟩ else m

/-- R10: every other channel whose status is GOOD becomes SUSPECT. -/
def suspectOthers (k : Nat) (channels : List ChannelStatus) : List ChannelStatus :=
  mapFrom (fun i c => if i + 1 ≠ k ∧ c = .good then .suspect else c) 0 channels

/-- R10: the sum disagrees and the check agrees. SEARCH_EXHAUSTED, for which R10 lists no fields, is held with the check index k: the
model's choice (log entry 21). -/
def ModuleRecord.searchOn (m : ModuleRecord) (round : Nat) (d : Int) : ModuleRecord :=
  let m := m.confirm
  if m.check = .search then
    let m : ModuleRecord := { m with search := m.search + 1 }
    if m.search = 20 then { m with check := .blind }.hold ⟨round, d, m.k, .searchExhausted⟩ else m
  else
    { m with check := .search, search := 1, channels := suspectOthers m.k m.channels }.hold ⟨round, d, m.k, .searchEntered⟩

/-- R11, R13: both disagree. A fault that is placed makes cell k FAILED and at once SUBSTITUTED: no cell of the module is substituted
yet, and the module is not DEGRADED. UNPLACED, for which R11 lists no fields, is held with the check index k: the model's choice (log
entry 21). -/
def ModuleRecord.placeFault (m : ModuleRecord) (round tolSum : Nat) (d e : Int) : ModuleRecord :=
  if (d - e).natAbs ≤ tolSum then
    { m with
      check := .normal
      search := 0
      disagree := 0
      channels := changeAt (fun _ => .substituted) (m.k - 1) m.channels }.hold ⟨round, d, m.k, .cellFailed⟩
  else { m with check := .blind }.hold ⟨round, d, m.k, .unplaced⟩

/-- R12: the sum test of a DEGRADED module. -/
def ModuleRecord.checkDegraded (m : ModuleRecord) (round tolSum : Nat) (d : Int) : ModuleRecord :=
  if d.natAbs ≤ tolSum then m else { m with check := .blind }.hold ⟨round, d, m.k, .degradedSumFault⟩

/-- R13: the check of a module with a SUBSTITUTED cell; D has no meaning here and is held as 0 (R16). -/
def ModuleRecord.checkSubstituted (m : ModuleRecord) (round tolChk : Nat) : ModuleRecord :=
  if m.channels.getD (m.k - 1) .good = .substituted then
    if ((m.checkReading : Int) - (m.subst.getD 0 : Nat)).natAbs ≤ tolChk then m
    else { m with check := .blind }.hold ⟨round, 0, m.k, .substituteConflict⟩
  else if m.checkDifference.natAbs ≤ tolChk then m.confirm
  else
    { m with
      check := .blind
      channels := changeAt (fun _ => .failed) (m.k - 1) m.channels }.hold ⟨round, 0, m.k, .secondFault⟩

/-- A module has a SUBSTITUTED cell. -/
def ModuleRecord.substitutes (m : ModuleRecord) : Bool := m.channels.any fun c => decide (c = .substituted)

/-- R7 to R13: the channel checking of one module. -/
def ModuleRecord.channelCheck (m : ModuleRecord) (round tolSum tolChk : Nat) : ModuleRecord :=
  let d := m.sumDifference
  let e := m.checkDifference
  if m.check = .degraded then m.checkDegraded round tolSum d
  else if m.substitutes then m.checkSubstituted round tolChk
  else
    match decide (d.natAbs ≤ tolSum), decide (e.natAbs ≤ tolChk) with
    | true, true => m.confirm.endSearch
    | true, false => m.suspectCheck round d
    | false, true => m.searchOn round d
    | false, false => m.placeFault round tolSum d e

/-- The states that channel checking takes (R4). -/
def CheckState.checked : CheckState → Bool
  | .normal => true
  | .search => true
  | .degraded => true
  | .blind => false
  | .lost => false

/-- R15: no temperature of the module is valid. -/
def ModuleRecord.noTemperature (m : ModuleRecord) : Bool := !(m.temps.any fun t => t.valid)

/-- R15: the temperature test of a module whose report was accepted. -/
def ModuleRecord.testTemperature (m : ModuleRecord) (round : Nat) : ModuleRecord :=
  if m.check ≠ .lost ∧ m.noTemperature = true then { m with check := .blind }.hold ⟨round, 0, 0, .noTemperature⟩ else m

/-- R13: the sum of the 19 primary readings other than the SUBSTITUTED cell's. -/
def otherReadings (channels : List ChannelStatus) (cells : List Nat) : Nat :=
  sumOf (mapFrom (fun i v => if channels.getD i .good = .substituted then 0 else v) 0 cells)

/-- R13: the derived value of a SUBSTITUTED cell: the total less the other 19 primary readings, clamped to 0..5000. -/
def ModuleRecord.derive (m : ModuleRecord) : ModuleRecord :=
  { m with
    subst := if m.substitutes then some (min 5000 (m.total - otherReadings m.channels m.cells)) else none }

/-- R6: the next check index. -/
def nextIndex (k : Nat) : Nat := if k = 20 then 1 else k + 1

/-- R6: the check index advances after the evaluation of a module that is not LOST. -/
def ModuleRecord.advance (m : ModuleRecord) : ModuleRecord :=
  if m.check = .lost then m else { m with k := nextIndex m.k }

/-- R19: a re-admitted module leaves LOST and starts NORMAL. -/
def ModuleRecord.readmitted (m : ModuleRecord) : ModuleRecord :=
  { m with
    check := .normal
    channels := List.replicate 20 .good
    subst := none
    disagree := 0
    search := 0
    k := 1
    readmit := false }

/-- R4, R6, R19: the evaluation of one module at a round's completion. -/
def ModuleRecord.evaluate (m : ModuleRecord) (win : Window) (quiet : Bool) (round tolSum tolChk : Nat) : ModuleRecord :=
  match win with
  | .accepted readmitted =>
    let m := m.testTemperature round
    let m := if quiet && m.check.checked then m.channelCheck round tolSum tolChk else m
    let m := m.derive
    if readmitted && decide (m.check = .lost) then m.readmitted else if quiet then m.advance else m
  | .notSent => m.derive
  | .opened => m.derive
  | .missed => m.derive

/-! ## The string summary (R17) -/

/-- Numbers the values of module `n` (from 1): value, module, cell. -/
def cellsOf (n : Nat) (m : ModuleRecord) : List CellAt := mapFrom (fun i v => ⟨v, n, i + 1⟩) 0 m.values

/-- The valid temperatures of module `n` (from 1). -/
def tempsOf (n : Nat) (m : ModuleRecord) : List TempAt :=
  (mapFrom (fun i (t : TempReading) => (t.valid, (⟨t.value, n, i + 1⟩ : TempAt))) 0 m.temps).filterMap fun p =>
    if p.1 then some p.2 else none

/-- The first element that no later one beats. -/
def firstBest {α : Type} (beats : α → α → Bool) : List α → Option α
  | [] => none
  | x :: xs => some (xs.foldl (fun best y => if beats y best then y else best) x)

/-- R17: the modules that contribute, with their numbers. -/
def contributors (count : Nat) (modules : List ModuleRecord) : List (Nat × ModuleRecord) :=
  (mapFrom (fun i m => (i + 1, m)) 0 (modules.take count)).filter fun p => p.2.hasData

/-- R17: the highest valid temperature of a module. -/
def maximumOf (m : ModuleRecord) : Option Int := (firstBest (fun x y => decide (y.value < x.value)) (tempsOf 1 m)).map (·.value)

/-- R17: the module maximum of position `i` (from 0). -/
def maximumAt (count i : Nat) (m : ModuleRecord) : Option Int := if i < count ∧ m.hasData = true then maximumOf m else none

/-- R17: the string summary built from the values now held. -/
def buildSummary (count : Nat) (s : ScanState) : Summary :=
  let parts := contributors count s.modules
  let cells := parts.flatMap fun p => cellsOf p.1 p.2
  let temps := parts.flatMap fun p => tempsOf p.1 p.2
  { round := s.roundNumber
    vMin := firstBest (fun x y => decide (x.mv < y.mv)) cells
    vMax := firstBest (fun x y => decide (y.mv < x.mv)) cells
    tMin := firstBest (fun x y => decide (x.value < y.value)) temps
    tMax := firstBest (fun x y => decide (y.value < x.value)) temps
    maxima := mapFrom (maximumAt count) 0 s.modules
    stringV := sumOf (cells.map (·.mv))
    cellCount := 20 * parts.length
    staleCount := ((s.modules.take count).filter (·.stale)).length
    visibilityLost := s.visibilityLost }

/-- R17: whether a summary is published: one has been, or every module has data or is LOST. -/
def mayPublish (count : Nat) (s : ScanState) : Bool :=
  s.summary.isSome || (s.modules.take count).all fun m => m.hasData || decide (m.check = .lost)

/-- R17: the blocks that read the summary act on it, in the order in which R17 lists them (log entry 8). -/
def readSummary (s : Summary) (w : Work) : Work :=
  connSummary (limitSummary (hazardSummary s (thermalSummary (balanceSummary (chargeSummary s w)))))

/-- R17: the summary is published. -/
def publish (w : Work) : Work :=
  if mayPublish w.count w.scan then
    let s := buildSummary w.count w.scan
    readSummary s (updateScan (fun c => { c with summary := some s }) w)
  else w

/-! ## Completion (R4) -/

/-- A window has settled. -/
def Window.settled : Window → Bool
  | .accepted _ => true
  | .missed => true
  | .notSent => false
  | .opened => false

/-- R4: the round completes once every module has had a report accepted or its window expire. -/
def completeRound (w : Work) : Work :=
  match w.scan.round with
  | some r =>
    if r.windows.all Window.settled then
      let c := w.loader.cfg
      let round := w.scan.roundNumber
      let evaluate := fun i (m : ModuleRecord) =>
        if i < c.moduleCount then m.evaluate (r.windows.getD i .notSent) r.quiet round c.tolSum c.tolChk else m
      let w := updateScan (fun s => { s with modules := mapFrom evaluate 0 s.modules, round := none }) w
      creditRound r (retestSets (publish (reviewVisibility w)))
    else w
  | none => w

/-! ## Reports and misses (R2, R3) -/

/-- R2: the valid range of a module temperature. -/
def validTemp (t : Int) : Bool := decide (-400 ≤ t ∧ t ≤ 1250)

/-- R2: every reading lies within the report table. -/
def reportInRange (r : ModuleReport) : Bool :=
  decide (r.cells.length = 20 ∧ r.temps.length = 4) && r.cells.all (fun v => decide (v ≤ 5000))
    && decide (r.total ≤ 100000 ∧ r.checkReading ≤ 5000)

/-- R2: the conditions under which a report is accepted. -/
def acceptsReport (w : Work) (r : ModuleReport) : Bool :=
  match w.scan.round with
  | some round =>
    r.checkGood && decide (1 ≤ r.n ∧ r.n ≤ w.count) && decide (r.roundEcho = w.scan.roundNumber)
      && decide (r.checkIndex = (w.module (r.n - 1)).k) && reportInRange r
      && decide (round.windows.getD (r.n - 1) .notSent = .opened)
  | none => false

/-- R2: the record after an accepted report. -/
def ModuleRecord.take (m : ModuleRecord) (r : ModuleReport) : ModuleRecord :=
  { m with
    hasData := true
    cells := r.cells
    total := r.total
    checkReading := r.checkReading
    temps := r.temps.map fun t => ⟨t, validTemp t⟩
    missCount := 0
    stale := false }

/-- The window of position `i` (from 0) settles. -/
def settleWindow (i : Nat) (win : Window) (w : Work) : Work :=
  updateScan (fun s =>
    { s with
      answers := changeAt (fun _ => none) i s.answers
      round := s.round.map fun r => { r with windows := changeAt (fun _ => win) i r.windows } }) w

/-- R2: a module report arrives on the chain. -/
def takeReport (r : ModuleReport) (w : Work) : Work :=
  if acceptsReport w r then
    let i := r.n - 1
    completeRound (settleWindow i (.accepted (w.module i).readmit) (updateModule i (fun m => m.take r) w))
  else w

/-- R3: the record after a miss. -/
def ModuleRecord.miss (m : ModuleRecord) : ModuleRecord :=
  let count := satSucc 3 m.missCount
  { m with missCount := count, stale := true, check := if count = 3 then .lost else m.check }

/-- R41: the module at position `i` (from 0) becomes LOST by one more miss: its bleed set is emptied at that expiry. -/
def losesModule (i : Nat) (w : Work) : Bool := decide ((w.module i).check ≠ .lost ∧ (w.module i).miss.check = .lost)

/-- R3: the answer window of module `n` expires. -/
def expireWindow (n : Nat) (w : Work) : Work :=
  let i := n - 1
  if 1 ≤ n ∧ (w.scan.round.map fun r => r.windows.getD i .notSent) = some .opened then
    completeRound (reviewVisibility
      (Work.onlyIf (losesModule i w) (updateBalance (emptySet .notNormal i))
        (settleWindow i .missed (updateModule i ModuleRecord.miss w))))
  else w

/-! ## Maintenance clear (R19) -/

/-- R19: a module record at maintenance clear. -/
def ModuleRecord.cleared (m : ModuleRecord) : ModuleRecord :=
  if m.check = .lost then { m with errorHold := none, readmit := true }
  else
    { m with
      check := .normal
      channels := List.replicate 20 .good
      subst := none
      disagree := 0
      search := 0
      errorHold := none }

/-- R18, R19: the scan unit's maintenance clear. -/
def scanMaintenanceClear (w : Work) : Work :=
  reviewVisibility (updateScan (fun s => { s with modules := s.modules.map ModuleRecord.cleared }) w)

end Sys2Proof.Machine
end

