-- ==== Sys2Proof/Machine/Analog.lean ====
section
/-! DEFINITION. The analog watch unit (chapter 1.5): conversions and the eight watch comparators. A comparator's command carries the value
its input has reached; set and clear values decide what it does (log entry 7). -/

namespace Sys2Proof.Machine

/-- Changes the analog watch unit's own state. -/
def updateAnalog (f : AnalogState → AnalogState) (w : Work) : Work := { w with analog := f w.analog }

/-! ## Conversions (R21, R23, R25) -/

/-- R21: the sample of a current, saturated at ±10000. -/
def sampleOf (current : Int) : Int := clampInt (-10000) 10000 current

/-- R21: a current beyond ±1000.0 A. -/
def overRangeOf (current : Int) : Bool := decide (10000 < current.natAbs)

/-- R21: the string current is converted, and the sample goes to charge accounting and balancing. -/
def convertCurrent (current : Int) (w : Work) : Work :=
  if w.running then
    balanceSample (chargeSample
      (updateAnalog (fun a => { a with currentTimer := some 0, sample := sampleOf current, overRange := overRangeOf current }) w))
  else w

/-- R23: the concentration in ppm of a loop reading in 0.01 mA. -/
def ppmOf (r : Nat) : Nat := if r ≤ 400 then 0 else if 2000 ≤ r then 1000 else (r - 400) * 1000 / 1600

/-- R23: a gas loop's reading, with its range 0 to 2500, and concentration. -/
def gasReadingOf (current : Nat) : GasReading := ⟨min 2500 current, ppmOf (min 2500 current)⟩

/-- R23, R67: the gas loops are converted. -/
def convertGas (currentA currentB : Nat) (w : Work) : Work :=
  if w.running then
    updateAnalog (fun a => { a with gasTimer := some 0, gasA := gasReadingOf currentA, gasB := gasReadingOf currentB }) w
  else w

/-- R25: a coolant or ambient temperature is converted. -/
def Sensor.convert (s : Sensor) (t : Int) : Sensor := if validTemp t then ⟨some t, false⟩ else { s with fault := true }

/-- R25, R48: the three temperatures are converted; thermal control reads the latest. -/
def convertTemperatures (inlet outlet ambient : Int) (w : Work) : Work :=
  if w.running then
    updateAnalog (fun a =>
      { a with
        temperatureTimer := some 0
        inlet := a.inlet.convert inlet
        outlet := a.outlet.convert outlet
        ambient := a.ambient.convert ambient }) w
  else w

/-! ## Comparators 1 and 2 (R22) -/

/-- A comparator with hysteresis: it sets at the set value, clears at the clear value, and keeps its state between. -/
def comparator (old : Bool) (setAt clearAt x : Int) : Bool := if setAt ≤ x then true else if x ≤ clearAt then false else old

/-- R22: the trip point of a direction, in 0.1 A. -/
def tripPoint (c : Settings) : Direction → Int
  | .discharge => c.disTripCode * 50
  | .charge => c.chgTripCode * 50

/-- R22: the current seen by the comparator of a direction. -/
def towards : Direction → Int → Int
  | .discharge, i => i
  | .charge, i => -i

/-- The fast trip comparator of a direction. -/
def AnalogState.trip (a : AnalogState) : Direction → Bool
  | .discharge => a.tripDischarge
  | .charge => a.tripCharge

/-- Gives the fast trip comparator of a direction a state. -/
def AnalogState.setTrip (a : AnalogState) (d : Direction) (v : Bool) : AnalogState :=
  match d with
  | .discharge => { a with tripDischarge := v }
  | .charge => { a with tripCharge := v }

/-- R22, R181: the current crosses a point of comparator 1 or 2. -/
def compareTrip (d : Direction) (current : Int) (w : Work) : Work :=
  let old := w.analog.trip d
  let new := comparator old (tripPoint w.loader.cfg d) (tripPoint w.loader.cfg d - 100) (towards d current)
  if w.running && new != old then
    let w := updateAnalog (fun a => a.setTrip d new) w
    if new then connFastTrip d w else connFastTripClear d w
  else w

/-! ## Comparators 3 to 8 (R23, R24, R67) -/

/-- The comparators of a gas loop. -/
def AnalogState.comparators (a : AnalogState) : DetectorLoop → LoopComparators
  | .a => a.loopA
  | .b => a.loopB

/-- Changes the comparators of a gas loop. -/
def AnalogState.onLoop (a : AnalogState) (loop : DetectorLoop) (f : LoopComparators → LoopComparators) : AnalogState :=
  match loop with
  | .a => { a with loopA := f a.loopA }
  | .b => { a with loopB := f a.loopB }

/-- R67: the member of the indication set that a level comparator gives. -/
def gasMember : DetectorLoop → GasLevel → Indication
  | .a, .l1 => .gasAL1
  | .a, .l2 => .gasAL2
  | .b, .l1 => .gasBL1
  | .b, .l2 => .gasBL2

/-- R67: the fault member of a gas loop. -/
def gasFaultMember : DetectorLoop → Indication
  | .a => .gasAFault
  | .b => .gasBFault

/-- The state of a level comparator. -/
def LoopComparators.level (c : LoopComparators) : GasLevel → Bool
  | .l1 => c.l1
  | .l2 => c.l2

/-- Gives a level comparator a state. -/
def LoopComparators.setLevel (c : LoopComparators) (g : GasLevel) (v : Bool) : LoopComparators :=
  match g with
  | .l1 => { c with l1 := v }
  | .l2 => { c with l2 := v }

/-- R24: the state that a concentration gives a level comparator. -/
def levelState (c : Settings) (g : GasLevel) (old : Bool) (ppm : Nat) : Bool :=
  match g with
  | .l1 => comparator old c.l1Set c.l1Clear ppm
  | .l2 => comparator old c.l2Set c.l2Clear ppm

/-- R24, R67: a level comparator takes the state a concentration gives, and reports a crossing. -/
def takeLevel (loop : DetectorLoop) (g : GasLevel) (ppm : Nat) (w : Work) : Work :=
  let old := (w.analog.comparators loop).level g
  let new := levelState w.loader.cfg g old ppm
  if new = old then w
  else changeMember (gasMember loop g) new (updateAnalog (fun a => a.onLoop loop fun c => c.setLevel g new) w)

/-- R24: the concentration crosses a level; while the loop's FAULT comparator is set the level comparator keeps its state. -/
def compareLevel (loop : DetectorLoop) (g : GasLevel) (ppm : Nat) (w : Work) : Work :=
  if w.running && !(w.analog.comparators loop).fault then takeLevel loop g ppm w else w

/-- R23: the supervision of a loop current, in 0.01 mA. -/
def loopFaultState (old : Bool) (current : Nat) : Bool :=
  if current < 360 ∨ 2100 < current then true else if 380 ≤ current ∧ current ≤ 2080 then false else old

/-- R23, R24, R67: the loop current crosses a supervision point. When the FAULT clears, the loop's level comparators take the state the
concentration then gives. Each of these reports arrives by itself (R67); that they arrive as the end of the FAULT, then level 1, then
level 2 is the model's choice (log entry 8). -/
def compareLoopFault (loop : DetectorLoop) (current : Nat) (w : Work) : Work :=
  let old := (w.analog.comparators loop).fault
  let new := loopFaultState old current
  if w.running && new != old then
    let w := changeMember (gasFaultMember loop) new (updateAnalog (fun a => a.onLoop loop fun c => { c with fault := new }) w)
    if new then w else takeLevel loop .l2 (ppmOf current) (takeLevel loop .l1 (ppmOf current) w)
  else w

end Sys2Proof.Machine
end

