-- ==== Sys2Proof/Machine/Peer.lean ====
section
/-! DEFINITION. The peer table, the effective dispatch and the service state (chapter 7). -/

namespace Sys2Proof.Machine

/-- Changes the peer table's own state. -/
def updatePeers (f : PeerState → PeerState) (w : Work) : Work := { w with peers := f w.peers }

/-- Changes the entry of station `n`. -/
def updateEntry (n : Nat) (f : PeerEntry → PeerEntry) (w : Work) : Work :=
  updatePeers (fun p => { p with entries := changeAt f (n - 1) p.entries }) w

/-- R137: every accepted frame is reported with its source. -/
def heard (n : Nat) (w : Work) : Work :=
  updateEntry n (fun e => { e with presence := .present, age := 0, frames := satSucc 65535 e.frames }) w

/-- R139: the digest state that an announced digest gives. -/
def digestStateOf (own announced : Nat) : DigestState := if own = announced then .same else .mismatch

/-- R139: SITE_MISMATCH follows the entries. -/
def reviewMismatch (w : Work) : Work := updatePeers (fun p => { p with siteMismatch := siteMismatchOf p.entries }) w

/-- R139, R146: a PRESENT is taken; a STATUS is placed in answer unless the own station is LISTENING. -/
def takePresent (n : Nat) (kind : StationKind) (a : Announced) (w : Work) : Work :=
  let w := reviewMismatch (updateEntry n (fun e =>
    { e with kind := kind, announced := some a, digest := digestStateOf w.loader.digest a.digest, status := none }) w)
  if w.peers.service = .listening then w else placeRoutine .status w

/-- R140: a STATUS is taken. -/
def takeStatus (n : Nat) (kind : StationKind) (f : StatusFields) (level : HazardLevel) (w : Work) : Work :=
  reviewNeighbours (updateEntry n (fun e => { e with kind := kind, status := some f, level := some level }) w)

/-- R141: a HAZARD is taken. -/
def takeHazard (n : Nat) (level : HazardLevel) (f : HazardFields) (w : Work) : Work :=
  reviewNeighbours (updateEntry n (fun e => { e with level := some level, hazard := some f }) w)

/-- R142: the effective dispatch after a DISPATCH. -/
def dispatchFrom (n : Nat) (setpoint : Int) (ramp : Nat) (mode : DispatchMode) : EffectiveDispatch :=
  ⟨.current, some n, setpoint, ramp, some mode, some 0⟩

/-- R142, R143: a DISPATCH is taken from a GATEWAY entry; a change of condition or mode is reported to the connection unit. -/
def takeDispatch (n : Nat) (setpoint : Int) (ramp : Nat) (mode : DispatchMode) (w : Work) : Work :=
  if (w.peer n).kind = .gateway then
    let old := w.peers.dispatch
    let w := updateEntry n (fun e => { e with dispatch := some ⟨setpoint, ramp, mode, 0⟩ }) w
    let w := updatePeers (fun p => { p with dispatch := dispatchFrom n setpoint ramp mode }) w
    if old.condition = .current ∧ old.mode = some mode then w else connDispatchReport w
  else w

/-- R143: the staleness timer reaches 10 s; it then stops (log entry 24). -/
def dispatchStales (w : Work) : Work :=
  if w.peers.dispatch.staleness.isSome then
    connDispatchReport
      (updatePeers (fun p => { p with dispatch := { p.dispatch with condition := .stale, staleness := none } }) w)
  else w

/-- R138: the presence state at an age. -/
def presenceAt (p : Presence) (age : Nat) : Presence :=
  if p = .present ∧ 30 ≤ age then .silent else if p = .silent ∧ 100 ≤ age then .absent else p

/-- R138: an entry at an ageing expiry. -/
def PeerEntry.ageOnce (e : PeerEntry) : PeerEntry :=
  let dispatch := e.dispatch.map fun d => { d with age := satSucc 65535 d.age }
  if e.presence = .empty then { e with dispatch := dispatch }
  else
    let age := satSucc 65535 e.age
    { e with age := age, presence := presenceAt e.presence age, dispatch := dispatch }

/-- R138: the ageing timer expires. -/
def ageEntries (w : Work) : Work :=
  if w.peers.ageing.isSome then
    updatePeers (fun p => { p with ageing := some 0, entries := p.entries.map PeerEntry.ageOnce }) w
  else w

/-! ## Service (R144 to R146) -/

/-- R144: the receiver has entered HUNT; the first time after the start, the listening timer starts. -/
def noteHunt (w : Work) : Work :=
  if w.running && !w.peers.huntSeen then updatePeers (fun p => { p with huntSeen := true, listening := some 0 }) w else w

/-- R144: the listening timer expires. -/
def listeningEnds (w : Work) : Work :=
  if w.peers.listening.isSome then
    placeRoutine .present (updatePeers (fun p => { p with listening := none, service := .announcing }) w)
  else w

/-- R145: the own PRESENT has been sent. -/
def presentSent (w : Work) : Work :=
  if w.peers.service = .announcing then
    updatePeers (fun p => { p with service := .learning, learning := some 0, status := some 0 }) w
  else w

/-- R145: the learning timer reaches 3 s; the end of learning is reported to the permit unit and the connection unit.
The timer then stops (log entry 24). -/
def learningEnds (w : Work) : Work :=
  if w.peers.learning.isSome then
    connRetest (tryOpenAsk (updatePeers (fun p => { p with learning := none, service := .inService }) w))
  else w

/-- R146: the STATUS timer expires. -/
def statusDue (w : Work) : Work :=
  if w.peers.status.isSome then placeRoutine .status (updatePeers (fun p => { p with status := some 0 }) w) else w

end Sys2Proof.Machine
end

