-- ==== Sys2Proof/Machine/Records.lean ====
section
/-! DEFINITION. The record server (R193, R194): the parts of the nine records, byte for byte. Where the chapters give a state no number,
the states carry 0, 1, 2 … in the order in which their table lists them, and a field that may be absent carries all ones (log entry
14). -/

namespace Sys2Proof.Machine

/-! ## Fields -/

/-- `n` bytes of ones: an absent field or a stopped timer. -/
def allOnes (n : Nat) : List Byte := List.replicate n 0xFF#8

/-- A field that may be absent, with its length. -/
def optional {α : Type} (n : Nat) (f : α → List Byte) (x : Option α) : List Byte :=
  match x with
  | some x => f x
  | none => allOnes n

/-- A flag or an on/off output in one byte: 1 where it is set or on, 0 where it is clear or off. The chapters number neither: the model's
choice (log entry 14). -/
def flagByte (b : Bool) : List Byte := beBytes 1 (flagNat b)

/-- A timer of `n` bytes in ms. -/
def timerMs (n : Nat) (t : Timer) : List Byte := optional n (beBytes n) t

/-- A timer of `n` bytes in s. -/
def timerS (n : Nat) (t : Timer) : List Byte := optional n (fun ms => beBytes n (ms / 1000)) t

/-- A set of numbers from 1 as bits: member v is bit v - 1. -/
def memberBits (l : List Nat) : Nat := sumOf (l.map fun v => 2 ^ (v - 1))

/-! ## Numbers of states that the chapters list without one -/

/-- The check state, in the order of section 1.2. -/
def CheckState.code : CheckState → Nat
  | .normal => 0 | .search => 1 | .degraded => 2 | .blind => 3 | .lost => 4

/-- The channel status, in the order of section 1.2. -/
def ChannelStatus.code : ChannelStatus → Nat
  | .good => 0 | .suspect => 1 | .substituted => 2 | .failed => 3

/-- The error outcome (R16). -/
def ErrorOutcome.code : ErrorOutcome → Nat
  | .searchEntered => 1 | .cellFailed => 2 | .unplaced => 3 | .checkPathDegraded => 4 | .degradedSumFault => 5
  | .searchExhausted => 6 | .secondFault => 7 | .substituteConflict => 8 | .noTemperature => 9

/-- The counter condition, in the order of section 2.1. -/
def CounterCondition.code : CounterCondition → Nat
  | .noEstimate => 0 | .counting => 1

/-- The calibration kind, in the order of section 2.1. -/
def CalibrationKind.code : CalibrationKind → Nat
  | .none => 0 | .startEstimate => 1 | .full => 2 | .empty => 3

/-- The balance result, in the order of section 2.2. -/
def BalanceResult.code : BalanceResult → Nat
  | .none => 0 | .balancing => 1 | .idleVoltage => 2 | .idleCurrent => 3 | .idleHazard => 4

/-- The exclusion reason, in the order of section 2.2. -/
def Exclusion.code : Exclusion → Nat
  | .none => 0 | .notNormal => 1 | .hot => 2 | .stale => 3 | .noData => 4

/-- The stage, in the order of section 3.1. -/
def Stage.code : Stage → Nat
  | .off => 0 | .circulate => 1 | .cool1 => 2 | .cool2 => 3 | .heat => 4

/-- The forced mode, in the order of section 3.1. -/
def ForcedMode.code : ForcedMode → Nat
  | .none => 0 | .coolForced => 1 | .purge => 2 | .sealed => 3

/-- The need state (section 3.7). -/
def NeedState.code : NeedState → Nat
  | .none => 0 | .waiting => 1 | .starting => 2 | .retry => 3

/-- The smoke loop state, in the order of section 4.1. -/
def SmokeState.code : SmokeState → Nat
  | .normal => 0 | .active => 1 | .fault => 2

/-- The presence state, in the order of section 7.1. -/
def Presence.code : Presence → Nat
  | .empty => 0 | .present => 1 | .silent => 2 | .absent => 3

/-- The station kind (R120); UNKNOWN is 0. -/
def StationKind.code : StationKind → Nat
  | .unknown => 0 | .container => 1 | .gateway => 2

/-- The digest state, in the order of section 7.1. -/
def DigestState.code : DigestState → Nat
  | .unknown => 0 | .same => 1 | .mismatch => 2

/-- The dispatch condition, in the order of section 7.3. -/
def DispatchCondition.code : DispatchCondition → Nat
  | .none => 0 | .current => 1 | .stale => 2

/-- The service state (section 7.4). -/
def ServiceState.code : ServiceState → Nat
  | .listening => 0 | .announcing => 1 | .learning => 2 | .inService => 3

/-- The share direction, in the order of section 5.1. -/
def ShareDirection.code : ShareDirection → Nat
  | .discharge => 0 | .charge => 1 | .none => 2

/-- The target basis, in the order of the state table of section 5.1, in which SHARE stands first, and not in that of R106's table, in which
it stands last (log entry 14). -/
def TargetBasis.code : TargetBasis → Nat
  | .share => 0 | .hold => 1 | .stop => 2 | .zeroNotConnected => 3 | .zeroStale => 4 | .zeroSite => 5 | .zeroWeight => 6

/-- The permit state, in the order of section 8.1. -/
def PermitPhase.code : PermitPhase → Nat
  | .idle => 0 | .asking => 1 | .holding => 2 | .backoff => 3

/-- The own frame owed, in the order of section 8.1. -/
def OwedFrame.code : OwedFrame → Nat
  | .none => 0 | .status => 1 | .release => 2

/-- The outcome of a hold, in the order of section 8.1. -/
def HoldOutcome.code : HoldOutcome → Nat
  | .started => 0 | .notStarted => 1 | .ended => 2 | .cleared => 3

/-- The exit cause (R168). -/
def ExitCause.code : ExitCause → Nat
  | .stop => 1 | .preAlarm => 2 | .alarm => 3 | .visibility => 4 | .duplicate => 5 | .fastTrip => 6 | .cellHigh => 7
  | .cellLow => 8 | .linkLost => 9 | .converterFault => 10 | .prechargeTimeout => 11 | .readyTimeout => 12
  | .holdEnded => 13 | .permitCleared => 14 | .gridLost => 15 | .rideThroughExpired => 16 | .disconnected => 17

/-- The grid state, in the order of section 9.2. -/
def gridCode : GridState → Nat
  | .healthy => 0 | .absent => 1 | .outOfWindow => 2

/-- The start kind, in the order of R190. -/
def StartKind.code : StartKind → Nat
  | .configured => 0 | .unconfigured => 1

/-! ## STRING and MODULE (R5, R17) -/

/-- An extreme cell: value, module, cell. -/
def cellField (x : Option CellAt) : List Byte := optional 4 (fun c => beBytes 2 c.mv ++ beBytes 1 c.n ++ beBytes 1 c.cell) x

/-- An extreme temperature: value, module, sensor. -/
def tempField (x : Option TempAt) : List Byte := optional 4 (fun t => beSigned 2 t.value ++ beBytes 1 t.n ++ beBytes 1 t.sensor) x

/-- The string summary without its module maxima. -/
def summaryField (s : Summary) : List Byte :=
  beBytes 2 s.round ++ cellField s.vMin ++ cellField s.vMax ++ tempField s.tMin ++ tempField s.tMax
    ++ beBytes 3 s.stringV ++ beBytes 2 s.cellCount ++ beBytes 1 s.staleCount ++ flagByte s.visibilityLost

/-- STRING, part 0. -/
def stringPart0 (w : Work) : List Byte := optional 25 summaryField w.scan.summary ++ flagByte w.limit.summaryPresent

/-- STRING, part 1. -/
def stringPart1 (w : Work) : List Byte :=
  optional 32 (fun (s : Summary) => s.maxima.flatMap fun t => optional 2 (beSigned 2) t) w.scan.summary

/-- MODULE, part 0. -/
def modulePart0 (m : ModuleRecord) : List Byte := m.cells.flatMap (beBytes 2)

/-- MODULE, part 1: the value and the validity of each temperature stand together (log entry 14). -/
def modulePart1 (m : ModuleRecord) : List Byte :=
  beBytes 3 m.total ++ beBytes 1 m.k ++ beBytes 2 m.checkReading
    ++ (m.temps.flatMap fun t => beSigned 2 t.value ++ flagByte t.valid)
    ++ beBytes 1 m.missCount ++ flagByte m.stale ++ flagByte m.hasData

/-- A latched error-hold record. -/
def errorHoldField (e : ErrorHold) : List Byte :=
  beBytes 2 e.round ++ beSigned 3 e.d ++ beBytes 1 e.k ++ beBytes 1 e.outcome.code

/-- MODULE, part 2. -/
def modulePart2 (m : ModuleRecord) : List Byte :=
  beBytes 1 m.check.code ++ (m.channels.flatMap fun c => beBytes 1 c.code) ++ optional 2 (beBytes 2) m.subst
    ++ beBytes 1 m.disagree ++ beBytes 1 m.search ++ flagByte m.readmit ++ optional 7 errorHoldField m.errorHold

/-! ## CHARGE and BALANCE (R30, R33, R43) -/

/-- CHARGE, part 0. -/
def chargePart (w : Work) : List Byte :=
  beBytes 4 w.charge.q ++ beBytes 4 w.loader.cfg.qFull ++ beBytes 2 w.charge.soc ++ flagByte w.charge.uncertain
    ++ timerS 1 w.charge.fullTimer ++ flagByte w.charge.armed ++ beBytes 1 w.charge.emptyCount
    ++ beBytes 1 w.charge.lastKind.code ++ beBytes 4 w.charge.lastUptime ++ beBytes 1 w.charge.condition.code

/-- BALANCE, part 0, of position `i` (from 0), in the order of R193's table; the result and the target are the common ones at every
position, also above M (log entry 14). -/
def balancePart0 (b : BalanceState) (i : Nat) : List Byte :=
  beBytes 3 (memberBits (b.sets.getD i [])) ++ beBytes 1 (b.reasons.getD i .none).code ++ beBytes 1 b.result.code
    ++ optional 2 (beBytes 2) b.target

/-- BALANCE, part 1, of position `i` (from 0). -/
def balancePart1 (b : BalanceState) (i : Nat) : List Byte := (b.seconds.getD i []).flatMap (beBytes 2)

/-! ## THERMAL (R64) -/

/-- THERMAL, part 0, in the order of R64's list, and not in that of R193's groups, in which the outputs and the duties stand before the timers
(log entry 14). -/
def thermalPart0 (t : ThermalState) : List Byte :=
  beBytes 1 t.stage.code ++ beBytes 1 t.forced.code ++ beBytes 1 t.need.code
    ++ optional 1 (fun (s : Stage) => beBytes 1 s.code) t.wanted
    ++ flagByte t.auxWait ++ beBytes 1 t.aux ++ beBytes 2 t.derate
    ++ flagByte t.compressor ++ flagByte t.feedback ++ timerS 1 t.minOn ++ timerS 2 t.minOff ++ timerS 1 t.monitor
    ++ timerS 1 t.retry ++ beBytes 1 t.pump.duty ++ beBytes 1 t.fan1.duty ++ beBytes 1 t.fan2.duty
    ++ flagByte t.heater ++ flagByte t.damper ++ flagByte t.exhaust
    ++ flagByte t.pump.failed ++ flagByte t.fan1.failed ++ flagByte t.fan2.failed ++ flagByte t.compressorFailed

/-- A drive's last tach rate and low-tach count. -/
def tachField (d : DriveState) : List Byte := beBytes 2 d.rate ++ beBytes 1 d.lowCount

/-- A last aux check; its result is sent as a flag, 1 for PASS (log entry 14). -/
def auxCheckField (a : AuxCheck) : List Byte :=
  beBytes 2 a.peerSum ++ beBytes 1 a.own ++ beBytes 2 a.limit ++ flagByte a.pass ++ beBytes 4 a.uptime

/-- A coolant or ambient sensor. -/
def sensorField (s : Sensor) : List Byte := optional 2 (beSigned 2) s.value ++ flagByte s.fault

/-- THERMAL, part 1: the rate and the count of each drive stand together, drive after drive, and so do the value and the FAULT flag of each
sensor (log entry 14). -/
def thermalPart1 (w : Work) : List Byte :=
  tachField w.thermal.pump ++ tachField w.thermal.fan1 ++ tachField w.thermal.fan2
    ++ optional 10 auxCheckField w.thermal.lastAux
    ++ sensorField w.analog.inlet ++ sensorField w.analog.outlet ++ sensorField w.analog.ambient
    ++ beBytes 1 w.loader.cfg.prescalerM ++ beBytes 1 w.loader.cfg.prescalerN
    ++ beBytes 2 (periodClocks w.loader.cfg.prescalerM w.loader.cfg.prescalerN)

/-! ## HAZARD (R93) -/

/-- A gas loop's latest reading and concentration. -/
def gasField (g : GasReading) : List Byte := beBytes 2 g.reading ++ beBytes 2 g.ppm

/-- The lockout image: level, first cause, uptime. -/
def imageField (i : LockoutImage) : List Byte :=
  beBytes 1 (lockoutLevelCode i.content.level) ++ beBytes 1 i.content.cause.code ++ beBytes 4 i.content.uptime

/-- HAZARD, part 0; the countdown's state is sent as a flag, 1 while it runs, and the reading and the concentration of loop A stand before
those of loop B (log entry 14). -/
def hazardPart0 (w : Work) : List Byte :=
  let h := w.hazard
  beBytes 1 h.level.code ++ beBytes 2 (indicationBits h.set) ++ beBytes 1 h.firstCause.code
    ++ beBytes 1 h.smokeA.state.code ++ beBytes 1 h.smokeB.state.code
    ++ flagByte h.callPoint.taken ++ flagByte h.door.taken ++ flagByte h.hold.taken ++ flagByte h.dischargedInput.taken
    ++ flagByte h.release ++ beBytes 1 (countdownSeconds h.countdown) ++ flagByte h.countsDown
    ++ flagByte h.releaseFault ++ flagByte h.writeFault ++ flagByte h.neighbourAlarm
    ++ gasField w.analog.gasA ++ gasField w.analog.gasB ++ optional 6 imageField h.image

/-- An entry of the hazard history. -/
def historyField (e : HistoryEntry) : List Byte :=
  beBytes 1 e.old.code ++ beBytes 1 e.new.code ++ beBytes 1 e.cause.code ++ beBytes 4 e.uptime

/-- HAZARD, parts 1 to 3: `n` entries of the history from entry `i` on, after the number of entries (log entry 14). -/
def historyPart (h : HazardState) (i n : Nat) : List Byte :=
  beBytes 1 h.history.length ++ ((h.history.drop i).take n).flatMap historyField

/-- A first-cause record. -/
def firstCauseField (r : FirstCause) : List Byte :=
  beBytes 2 (indicationBits r.set) ++ beBytes 1 r.trigger.code ++ tempField r.tMax ++ beBytes 4 r.uptime

/-- HAZARD, part 4. -/
def hazardPart4 (h : HazardState) : List Byte :=
  optional 11 firstCauseField h.firstPre ++ optional 11 firstCauseField h.firstAlarm

/-! ## PEER (R148) -/

/-- What a PRESENT announced. -/
def announcedField (a : Announced) : List Byte := beBytes 2 a.digest ++ beBytes 1 a.moduleCount ++ beBytes 2 a.rating

/-- The last STATUS fields. -/
def statusField (f : StatusFields) : List Byte :=
  beBytes 2 f.dis ++ beBytes 2 f.chg ++ beBytes 2 f.soc ++ beBytes 1 f.aux ++ beBytes 1 f.conn.code
    ++ beSigned 2 f.setpoint ++ beBytes 1 f.flags.byte

/-- The last HAZARD fields. -/
def hazardField (f : HazardFields) : List Byte :=
  beBytes 2 (indicationBits f.set) ++ beBytes 1 f.firstCause.code ++ beBytes 1 f.countdown

/-- A last dispatch. -/
def dispatchField (d : PeerDispatch) : List Byte :=
  beSigned 4 d.setpoint ++ beBytes 2 d.ramp ++ beBytes 1 d.mode.code ++ beBytes 2 d.age

/-- PEER, part 0. -/
def peerPart0 (e : PeerEntry) : List Byte :=
  beBytes 1 e.presence.code ++ beBytes 2 e.age ++ beBytes 2 e.frames ++ beBytes 1 e.kind.code ++ beBytes 1 e.digest.code
    ++ optional 5 announcedField e.announced ++ flagByte e.status.isSome ++ optional 11 statusField e.status
    ++ optional 1 (fun (l : HazardLevel) => beBytes 1 l.code) e.level ++ optional 4 hazardField e.hazard
    ++ optional 9 dispatchField e.dispatch

/-- PEER, part 1: the own station's fields; the dispatch's fields stand in the order of the table of 7.3, and the time remaining on the
learning timer is in whole seconds, rounded down (log entry 14). -/
def peerPart1 (p : PeerState) : List Byte :=
  beBytes 1 p.service.code ++ optional 1 (fun ms => beBytes 1 ((Config.learningMs - ms) / 1000)) p.learning
    ++ flagByte p.siteMismatch
    ++ beBytes 1 p.dispatch.condition.code ++ optional 1 (beBytes 1) p.dispatch.source ++ beSigned 4 p.dispatch.setpoint
    ++ beBytes 2 p.dispatch.ramp ++ optional 1 (fun (m : DispatchMode) => beBytes 1 m.code) p.dispatch.mode
    ++ timerS 1 p.dispatch.staleness

/-! ## CONNECTION (R115, R167, R185) -/

/-- The lock reasons as a set. The chapters give its members no bits; FAILURES, HAZARD and DUPLICATE take bits 0, 1 and 2 in the order of
their listing (log entry 14). -/
def lockBits (l : LockReasons) : Nat := flagNat l.failures + 2 * flagNat l.hazard + 4 * flagNat l.duplicate

/-- A last exit. -/
def exitField (e : LastExit) : List Byte := beBytes 1 e.cause.code ++ beBytes 1 e.left.code ++ beBytes 4 e.uptime

/-- CONNECTION, part 0, in the order of R193's table, in which the failure count and the threshold stand before the latches; R185 lists the
latches first. The fast trip latch goes as two flags, DISCHARGE before CHARGE (log entry 14). -/
def connectionPart0 (c : ConnState) : List Byte :=
  beBytes 1 c.phase.code ++ beBytes 1 (lockBits c.locks) ++ optional 6 exitField c.lastExit
    ++ flagByte c.drives.mainNegative ++ flagByte c.drives.precharge ++ flagByte c.drives.mainPositive
    ++ flagByte c.drives.enable ++ beBytes 1 c.failures ++ optional 3 (beBytes 3) c.threshold
    ++ flagByte c.tripDischarge ++ flagByte c.tripCharge

/-- A last converter answer. -/
def answerField (a : LastAnswer) : List Byte :=
  beBytes 1 a.answer.seqEcho ++ beBytes 1 (gridCode a.answer.grid) ++ beBytes 3 a.answer.dcLink
    ++ beSigned 2 a.answer.power ++ flagByte a.answer.ready ++ flagByte a.answer.fault ++ beBytes 4 a.uptime

/-- CONNECTION, part 1. Before the first frame the sequence number is that of the reset, 0 (R168, R185), and the setpoint
handed is sent as absent (log entry 14). -/
def connectionPart1 (w : Work) : List Byte :=
  let c := w.conn
  flagByte (!c.linkUp) ++ beBytes 1 c.misses
    ++ beBytes 1 c.seq ++ optional 2 (fun (f : Nat × Int) => beSigned 2 f.2) c.lastFrame ++ optional 13 answerField c.lastAnswer
    ++ timerMs 3 c.gridTimer ++ timerMs 2 c.stateTimer ++ timerMs 2 c.visibilityTimer
    ++ beBytes 2 w.loader.cfg.reconnectDelay ++ beBytes 1 w.loader.cfg.rideThrough

/-- CONNECTION, part 2. -/
def connectionPart2 (w : Work) : List Byte :=
  let l := w.limit
  beBytes 2 l.tempDis ++ beBytes 2 l.tempChg ++ beBytes 2 l.voltDis ++ beBytes 2 l.voltChg
    ++ beBytes 2 l.iDis ++ beBytes 2 l.iChg ++ beSigned 2 w.analog.sample ++ beBytes 2 l.pDis ++ beBytes 2 l.pChg
    ++ beBytes 2 l.thermalDerate ++ beBytes 2 l.hazardDerate ++ beBytes 2 l.visibility
    ++ beBytes 2 l.cDis ++ beBytes 2 l.cChg

/-- CONNECTION, part 3; the dispatch is the effective one as it stands at the READ (log entry 14). -/
def connectionPart3 (w : Work) : List Byte :=
  let l := w.limit
  let d := w.peers.dispatch
  beBytes 1 l.direction.code ++ beBytes 1 l.participants ++ beBytes 2 l.ownWeight ++ beBytes 2 l.siteWeight
    ++ beBytes 1 l.basis.code ++ beSigned 2 l.target ++ beBytes 2 l.ownRamp ++ beSigned 2 l.setpoint ++ beBytes 1 l.residue
    ++ beSigned 2 (siteSetpoint d) ++ beBytes 2 (siteRamp d)
    ++ optional 1 (fun (m : DispatchMode) => beBytes 1 m.code) d.mode ++ beBytes 1 d.condition.code

/-- A need by its purpose, the served need too; an absent one, in the queue too, is all ones (log entry 14). -/
def needField (n : Option Need) : List Byte := optional 1 (fun (x : Need) => beBytes 1 x.purpose.code) n

/-- CONNECTION, part 4. -/
def connectionPart4 (p : PermitState) : List Byte :=
  beBytes 1 p.phase.code ++ beBytes 1 p.tag ++ beBytes 1 p.waits
    ++ needField p.queue[0]? ++ needField p.queue[1]? ++ needField p.queue[2]? ++ needField p.served
    ++ beBytes 4 (memberBits p.awaited) ++ beBytes 4 (memberBits p.deferredBy)
    ++ beBytes 1 p.owed.code ++ beBytes 1 p.free
    ++ timerMs 2 p.ask ++ timerMs 2 p.hold ++ timerMs 2 p.backoff

/-- The deferred list's length, which stands first (log entry 14), and `n` of its entries from entry `i` on. -/
def deferredField (p : PermitState) (i n : Nat) : List Byte :=
  beBytes 1 p.deferred.length ++ ((p.deferred.drop i).take n).flatMap fun e => beBytes 1 e.1 ++ beBytes 1 e.2

/-- A last ask heard; the answer is 1 for GRANT. -/
def askField (a : AskHeard) : List Byte :=
  beBytes 1 a.source ++ beBytes 1 a.tag ++ beBytes 1 a.waits ++ beBytes 1 a.purpose.code ++ beBytes 1 a.increase
    ++ flagByte a.granted ++ beBytes 4 a.uptime

/-- A last hold. -/
def holdField (h : HoldRecord) : List Byte :=
  beBytes 1 h.purpose.code ++ beBytes 1 h.outcome.code ++ beBytes 4 h.heldAt ++ beBytes 4 h.releasedAt

/-- CONNECTION, part 6. -/
def connectionPart6 (p : PermitState) : List Byte :=
  deferredField p 21 8 ++ optional 10 askField p.lastAsk ++ optional 10 holdField p.lastHold ++ beBytes 1 p.dropped

/-! ## CONFIG (R193) -/

/-- A section's check result, sent as a flag, 1 for valid, and its adjusted flags: CLAMPED, REPLACED and DEFAULTED at bits 0, 1 and 2, in
the order of their listing (log entry 14). -/
def sectionField (r : SectionReport) : List Byte :=
  flagByte r.valid ++ beBytes 1 (flagNat r.clamped + 2 * flagNat r.replaced + 4 * flagNat r.defaulted)

/-- CONFIG, part 0. -/
def configPart (l : LoaderState) : List Byte :=
  beBytes 1 l.straps ++ flagByte l.listenOnly ++ optional 1 (fun (k : StartKind) => beBytes 1 k.code) l.startKind
    ++ flagByte l.memoryFault
    ++ sectionField l.sections.station ++ sectionField l.sections.site ++ sectionField l.sections.analog
    ++ sectionField l.sections.thermal ++ sectionField l.sections.hazard
    ++ beBytes 2 l.digest ++ beBytes 2 l.answered ++ beBytes 2 l.dropped ++ beBytes 4 l.uptime

/-! ## The server (R193) -/

/-- The instance lies in a range from 1. -/
def inRange (inst n : Nat) : Bool := decide (1 ≤ inst ∧ inst ≤ n)

/-- R193: the content of a part, or none where the result is NO_SUCH_RECORD. -/
def recordContent (w : Work) (kind inst part : Nat) : Option (List Byte) :=
  let m := w.scan.modules.getD (inst - 1) .reset
  match kind, part with
  | 1, 0 => checked (inst == 0) (stringPart0 w)
  | 1, 1 => checked (inst == 0) (stringPart1 w)
  | 2, 0 => checked (inRange inst 16) (modulePart0 m)
  | 2, 1 => checked (inRange inst 16) (modulePart1 m)
  | 2, 2 => checked (inRange inst 16) (modulePart2 m)
  | 3, 0 => checked (inst == 0) (chargePart w)
  | 4, 0 => checked (inRange inst 16) (balancePart0 w.balance (inst - 1))
  | 4, 1 => checked (inRange inst 16) (balancePart1 w.balance (inst - 1))
  | 5, 0 => checked (inst == 0) (thermalPart0 w.thermal)
  | 5, 1 => checked (inst == 0) (thermalPart1 w)
  | 6, 0 => checked (inst == 0) (hazardPart0 w)
  | 6, 1 => checked (inst == 0) (historyPart w.hazard 0 6)
  | 6, 2 => checked (inst == 0) (historyPart w.hazard 6 6)
  | 6, 3 => checked (inst == 0) (historyPart w.hazard 12 4)
  | 6, 4 => checked (inst == 0) (hazardPart4 w.hazard)
  | 7, 0 => checked (inRange inst 30) (peerPart0 (w.peer inst))
  | 7, 1 => checked (inRange inst 30) (peerPart1 w.peers)
  | 8, 0 => checked (inst == 0) (connectionPart0 w.conn)
  | 8, 1 => checked (inst == 0) (connectionPart1 w)
  | 8, 2 => checked (inst == 0) (connectionPart2 w)
  | 8, 3 => checked (inst == 0) (connectionPart3 w)
  | 8, 4 => checked (inst == 0) (connectionPart4 w.permit)
  | 8, 5 => checked (inst == 0) (deferredField w.permit 0 21)
  | 8, 6 => checked (inst == 0) (connectionPart6 w.permit)
  | 9, 0 => checked (inst == 0) (configPart w.loader)
  | _, _ => none

/-- R120, R193: the payload of a RECORD: kind, instance and part echoed, the result, the content. -/
def recordPayload (w : Work) (kind inst part : Nat) : List Byte :=
  let head := beBytes 1 kind ++ beBytes 1 inst ++ beBytes 1 part
  match recordContent w kind inst part with
  | some content => head ++ beBytes 1 0 ++ content
  | none => head ++ beBytes 1 1

/-- R193: a READ is answered at its arrival, or dropped when the REPLY store is full. -/
def answerRead (source kind inst part : Nat) (w : Work) : Work :=
  if 4 ≤ w.line.replies.length then updateLoader (fun l => { l with dropped := satSucc 65535 l.dropped }) w
  else
    updateLoader (fun l => { l with answered := satSucc 65535 l.answered })
      (appendReply ⟨source, recordPayload w kind inst part⟩ w)

end Sys2Proof.Machine
end

