-- ==== Sys2Proof/Machine/Reception.lean ====
section
/-! DEFINITION. The receive side of the line interface (R121 to R123, R133, R134) and what follows a frame that was sent (R128). -/

namespace Sys2Proof.Machine

/-- R116, R121: the idle count at which the line counts as quiet. -/
def quietLine : Nat := Config.idleBits

/-- R133, R135: one line error is counted, except in the listen-only start. -/
def countError (w : Work) : Work :=
  if w.loader.listenOnly then w else changeLine (fun l => { l with errors := satSucc 255 l.errors }) w

/-- The receiver enters a state with the characters it has collected. -/
def setReceiver (rx : ReceiverState) (buf : List Byte) (w : Work) : Work :=
  changeLine (fun l => { l with rx := rx, rxBuf := buf }) w

/-- R121: one line error is counted and the receiver enters DISCARD. -/
def discard (w : Work) : Work := setReceiver .discard [] (countError w)

/-- R116: a start bit takes the line; the idle count restarts from 0 and stands until the line is idle again. -/
def lineTaken (w : Work) : Work := changeLine (fun l => { l with idle := 0, taken := true }) w

/-- R116: a character's stop bit; the idle bit-times count from its end. -/
def lineFreed (w : Work) : Work := changeLine (fun l => { l with idle := 0, taken := false }) w

/-! ## Complete frames (R122, R123) -/

/-- R134: DUPLICATE is set; the stores are emptied, and the connection unit and then the permit unit are told (their order: log
entry 8). -/
def setDuplicate (w : Work) : Work :=
  if w.line.duplicate then w
  else permitDuplicate (connDuplicate (emptyStores (changeLine (fun l => { l with duplicate := true }) w)))

/-- R123: while DUPLICATE is set, permit frames and READs go to no block (R134, R165). -/
def unlessDuplicate (f : Work → Work) (w : Work) : Work := if w.line.duplicate then w else f w

/-- R123: an accepted frame goes to the block that owns its kind. -/
def route (source : Nat) (m : Message) (w : Work) : Work :=
  match m with
  | .present kind a => takePresent source kind a w
  | .status kind f level => takeStatus source kind f level w
  | .hazard level f => takeHazard source level f w
  | .dispatch setpoint ramp mode => takeDispatch source setpoint ramp mode w
  | .ask tag waits purpose increase => unlessDuplicate (answerAsk source tag waits purpose increase) w
  | .grant tag => unlessDuplicate (takeGrant source tag) w
  | .defer tag => unlessDuplicate (takeDefer source tag) w
  | .release tag => unlessDuplicate (takeRelease source tag) w
  | .read record inst part => unlessDuplicate (answerRead source record inst part) w
  | .record => w

/-- R122: the tests of source and destination, from the fourth on. A source above 31, which R117 gives to no station and test 5 does not
name, is ignored like 31 (log entry 20). -/
def testAddresses (f : Frame) (m : Message) (w : Work) : Work :=
  if f.source = w.own then setDuplicate w
  else if f.source = 0 ∨ 30 < f.source then w
  else if f.dest ≠ w.own ∧ f.dest ≠ allStations then w
  else if toOneStation f.kind = true ∧ f.dest = allStations then w
  else route f.source m (heard f.source w)

/-- R122: the tests of a complete frame, in the table's order. -/
def testFrame (f : Frame) (w : Work) : Work :=
  if !f.checkGood then countError w
  else if !knownKind f.kind then w
  else
    match decodeMessage f.kind f.payload with
    | none => countError w
    | some m => testAddresses f m w

/-- R121, R135: a frame is complete; the receiver returns to HUNT, and the frame is tested unless the start is listen-only. -/
def completeFrame (chars : List Byte) (w : Work) : Work :=
  let w := setReceiver .hunt [] w
  if w.loader.listenOnly then w else testFrame (parseFrame chars) w

/-! ## Characters (R121) -/

/-- R117: the number of characters of the frame being collected, once its length is known. -/
def frameEnd (buf : List Byte) : Option Nat := if 6 ≤ buf.length then some (frameLength (buf.getD 5 0).toNat) else none

/-- R121: the characters collected are no start of a frame: a wrong preamble, or a length above 48. -/
def badStart (buf : List Byte) : Bool :=
  (decide (1 ≤ buf.length) && buf.getD 0 0 != 0xA5#8) || (decide (2 ≤ buf.length) && buf.getD 1 0 != 0x3C#8)
    || (decide (6 ≤ buf.length) && decide (48 < (buf.getD 5 0).toNat))

/-- R121: a character is collected as the next position of the frame. -/
def collect (buf : List Byte) (w : Work) : Work :=
  if badStart buf then discard w
  else if frameEnd buf = some buf.length then completeFrame buf w
  else setReceiver .receiving buf w

/-- The receiver hears the line: every block runs, and the station is not sending (R121). -/
def Work.hears (w : Work) : Bool := w.running && decide (w.line.tx ≠ .sending)

/-- R121: a character from another station arrives. -/
def characterArrives (c : Byte) (w : Work) : Work :=
  if w.hears then
    let quiet := decide (quietLine ≤ w.line.idle)
    let w := lineFreed w
    match w.line.rx with
    | .hunt => if quiet then collect [c] w else discard w
    | .receiving => collect (w.line.rxBuf ++ [c]) w
    | .discard => w
  else w

/-- R122: the last check character of a frame is taken. -/
def lastCharacter (c : Byte) (w : Work) : Work :=
  let buf := w.line.rxBuf ++ [c]
  if w.hears && decide (w.line.rx = .receiving) && decide (frameEnd buf = some buf.length) && !badStart buf then
    completeFrame buf (lineFreed w)
  else w

/-- R121: a start bit now would begin a frame. -/
def LineState.begins (l : LineState) : Bool := decide (l.rx = .hunt ∧ quietLine ≤ l.idle)

/-- R121: where each receive fault can stand: a trailing character in HUNT on a line that is not quiet; a bad stop bit at any character
that is read, the first of a frame among them; a bad preamble at the first two characters; an over-long length at the sixth. -/
def faultFits (f : ReceiveFault) (l : LineState) : Bool :=
  match f with
  | .trailing => decide (l.rx = .hunt ∧ l.idle < quietLine)
  | .badStopBit => decide (l.rx ≠ .discard)
  | .badPreamble => l.begins || decide (l.rx = .receiving ∧ l.rxBuf.length ≤ 1)
  | .overLong => decide (l.rx = .receiving ∧ l.rxBuf.length = 5)

/-- R116: the line after the character of a receive fault: a trailing character's start bit has taken it and a bad stop bit holds it at
space; the other two end with a stop bit. -/
def lineAfter (f : ReceiveFault) (w : Work) : Work :=
  match f with
  | .trailing => lineTaken w
  | .badStopBit => lineTaken w
  | .badPreamble => lineFreed w
  | .overLong => lineFreed w

/-- R121: a receive fault. -/
def receiveFaults (f : ReceiveFault) (w : Work) : Work :=
  if w.hears && faultFits f w.line then discard (lineAfter f w) else w

/-- R116, R121: a start bit of another station: it takes the line; in HUNT it begins a frame, or trails the frame before it. -/
def startBit (w : Work) : Work :=
  if w.line.begins then setReceiver .receiving [] (lineTaken w)
  else if w.line.rx = .hunt then discard (lineTaken w)
  else lineTaken w

/-- R126: a WAITING transmitter sees the line taken: one deferral; the receiver follows the frame that took the line. -/
def defers (w : Work) : Work := if w.line.tx = .waiting then startBit (countDeferral w) else w

/-- R121, R144: the idle count reaches 12 bit-times; an unfinished frame counts one error, and the receiver is in HUNT after it. -/
def lineQuiet (w : Work) : Work :=
  if w.hears then
    let w := changeLine (fun l => { l with idle := max quietLine l.idle, taken := false }) w
    match w.line.rx with
    | .hunt => w
    | .receiving => noteHunt (setReceiver .hunt [] (countError w))
    | .discard => noteHunt (setReceiver .hunt [] w)
  else w

/-! ## Windows (R133) -/

/-- R133: LINE_DEGRADED after a window with a count of errors. -/
def degradedAfter (old : Bool) (errors : Nat) : Bool := if 20 ≤ errors then true else if errors ≤ 4 then false else old

/-- R133, R165: an error window ends and the next begins; the clearing of LINE_DEGRADED may let an ask be opened. R135: in the listen-only
start the windows run, but none is tested. -/
def windowEnds (w : Work) : Work :=
  if w.line.window.isSome then
    let degraded := if w.loader.listenOnly then w.line.degraded else degradedAfter w.line.degraded w.line.errors
    let cleared := w.line.degraded && !degraded
    Work.onlyIf cleared tryOpenAsk
      (changeLine (fun l => { l with degraded := degraded, errors := 0, window := some 0 }) w)
  else w

/-! ## Sending (R125, R128) -/

/-- R125: the idle count reaches the access gap of the frame in hand. The line has then been quiet for more than 12 bit-times, so that the
receiver stands in HUNT. -/
def transmits (w : Work) : Work :=
  if w.running && decide (w.line.rx = .hunt) then startSending w else w

/-- R128: the frame sent is reported to the block that placed it. -/
def frameIsSent (w : Work) : Work :=
  match w.line.sendingClass with
  | some .permit =>
    match w.line.permits with
    | f :: _ => permitFrameSent f (finishSending w)
    | [] => finishSending w
  | some .routine => if w.line.routine.head? = some .present then presentSent (finishSending w) else finishSending w
  | some .urgent => finishSending w
  | some .reply => finishSending w
  | none => w

end Sys2Proof.Machine
end

