-- ==== Sys2Proof/Machine/Loader.lean ====
section
/-! DEFINITION. Configuration and start-up (chapter 10): reading and adjusting the sections, the start of every block, the resets, the
uptime, and the maintenance clear key switch (R195). -/

namespace Sys2Proof.Machine

/-! ## Sections (R186 to R189) -/

/-- R186: an area of the memory. -/
structure Area where
  first : Nat
  length : Nat
  deriving DecidableEq, Repr

/-- R186: the station section. -/
def stationArea : Area := ⟨0, 128⟩
/-- R186: the site section. -/
def siteArea : Area := ⟨128, 32⟩
/-- R186: the analog section. -/
def analogArea : Area := ⟨160, 32⟩
/-- R186: the thermal section. -/
def thermalArea : Area := ⟨192, 16⟩
/-- R186: the hazard section. -/
def hazardArea : Area := ⟨208, 16⟩

/-- The bytes of an area. -/
def areaBytes (m : Memory) (a : Area) : List Byte := Memory.readBytes m a.first a.length

/-- R187: the check computed over an area but its last two bytes. -/
def areaCheck (bytes : List Byte) : List Byte := crcBytes (bytes.take (bytes.length - 2))

/-- R187: a section is valid. -/
def areaValid (bytes : List Byte) : Bool := areaCheck bytes == bytes.drop (bytes.length - 2)

/-- R188: a value after its check against its range, and whether it was clamped. -/
def clampValue (lo hi v : Nat) : Nat × Bool := (clampNat lo hi v, clampNat lo hi v != v)

/-- R188: a signed value after its check against its range, and whether it was clamped. -/
def clampSigned (lo hi v : Int) : Int × Bool := (clampInt lo hi v, clampInt lo hi v != v)

/-- An unsigned value of a section, with its range. -/
def valueAt (bytes : List Byte) (i n lo hi : Nat) : Nat × Bool := clampValue lo hi (beNat (slice bytes i n))

/-- R28, R188: an OCV entry below its predecessor is raised to it, in index order. -/
def raiseOcv : Nat → List Nat → List Nat
  | _, [] => []
  | least, x :: xs => max least x :: raiseOcv (max least x) xs

/-- R94: a set of breakpoints that is ordered. -/
def breaksOrdered (b : Breakpoints) : Bool :=
  decide (b.lowZero < b.lowFull ∧ b.lowFull ≤ b.highFull ∧ b.highFull < b.highZero)

/-- R188: four breakpoints from byte `i`, and whether one was clamped. -/
def breakpointsAt (bytes : List Byte) (i : Nat) : Breakpoints × Bool :=
  let v := fun j => clampSigned (-400) 1250 (beInt (slice bytes (i + 2 * j) 2))
  (⟨(v 0).1, (v 1).1, (v 2).1, (v 3).1⟩, (v 0).2 || (v 1).2 || (v 2).2 || (v 3).2)

/-- The report of a section. -/
def SectionReport.of (valid clamped replaced defaulted : Bool) : SectionReport := ⟨valid, clamped, replaced, defaulted⟩

/-- R94, R188: the station section over some settings, with its flags CLAMPED and REPLACED. -/
def loadStation (b : List Byte) (c : Settings) : Settings × Bool × Bool :=
  let count := valueAt b 0 1 4 16
  let capacity := valueAt b 1 2 50 500
  let tolSum := valueAt b 3 1 10 200
  let tolChk := valueAt b 4 1 5 100
  let band := valueAt b 5 1 5 100
  let ocv := (List.range 11).map fun i => valueAt b (6 + 2 * i) 2 2500 3700
  let raised := raiseOcv 0 (ocv.map (·.1))
  let dis := breakpointsAt b 28
  let chg := breakpointsAt b 36
  let vEmpty := valueAt b 44 2 2500 3700
  let vLow := valueAt b 46 2 2500 3700
  let vHigh := valueAt b 48 2 2500 3700
  let vFull := valueAt b 50 2 2500 3700
  let iDis := valueAt b 52 2 10 1000
  let iChg := valueAt b 54 2 10 1000
  let rating := valueAt b 56 2 50 2000
  let reconnect := valueAt b 58 2 10 900
  let ride := valueAt b 60 1 0 20
  let low := decide (vEmpty.1 < vLow.1)
  let high := decide (vHigh.1 < vFull.1)
  let clamped :=
    count.2 || capacity.2 || tolSum.2 || tolChk.2 || band.2 || ocv.any (·.2) || dis.2 || chg.2 || vEmpty.2 || vLow.2
      || vHigh.2 || vFull.2 || iDis.2 || iChg.2 || rating.2 || reconnect.2 || ride.2
  let replaced := raised != ocv.map (·.1) || !breaksOrdered dis.1 || !breaksOrdered chg.1 || !low || !high
  ({ c with
      moduleCount := count.1
      capacity := capacity.1
      tolSum := tolSum.1
      tolChk := tolChk.1
      band := band.1
      ocv := raised
      disBreak := if breaksOrdered dis.1 then dis.1 else .defaultDischarge
      chgBreak := if breaksOrdered chg.1 then chg.1 else .defaultCharge
      vEmpty := if low then vEmpty.1 else Settings.defaults.vEmpty
      vLowTaper := if low then vLow.1 else Settings.defaults.vLowTaper
      vHighTaper := if high then vHigh.1 else Settings.defaults.vHighTaper
      vFull := if high then vFull.1 else Settings.defaults.vFull
      iMaxDis := iDis.1
      iMaxChg := iChg.1
      rating := rating.1
      reconnectDelay := reconnect.1
      rideThrough := ride.1 }, clamped, replaced)

/-- R188: the site section over some settings, with its flag CLAMPED. -/
def loadSite (b : List Byte) (c : Settings) : Settings × Bool × Bool :=
  let aux := valueAt b 4 2 10 2000
  ({ c with siteId := beNat (slice b 0 2), revision := beNat (slice b 2 2), auxLimit := aux.1 }, aux.2, false)

/-- R24, R188: the clear value of a gas level: below its set value, or the set value less 1. -/
def clearBelow (setValue clearValue : Nat) : Nat := if clearValue < setValue then clearValue else setValue - 1

/-- R24, R188: the analog section over some settings, with its flags. -/
def loadAnalog (b : List Byte) (c : Settings) : Settings × Bool × Bool :=
  let dis := valueAt b 0 1 1 255
  let chg := valueAt b 1 1 1 255
  let l1Set := valueAt b 2 2 10 900
  let l1Clear := valueAt b 4 2 10 900
  let l2Set := valueAt b 6 2 10 900
  let l2Clear := valueAt b 8 2 10 900
  ({ c with
      disTripCode := dis.1
      chgTripCode := chg.1
      l1Set := l1Set.1
      l1Clear := clearBelow l1Set.1 l1Clear.1
      l2Set := l2Set.1
      l2Clear := clearBelow l2Set.1 l2Clear.1 },
    dis.2 || chg.2 || l1Set.2 || l1Clear.2 || l2Set.2 || l2Clear.2,
    decide (l1Set.1 ≤ l1Clear.1 ∨ l2Set.1 ≤ l2Clear.1))

/-- R53, R188: the thermal section over some settings, with its flag CLAMPED. -/
def loadThermal (b : List Byte) (c : Settings) : Settings × Bool × Bool :=
  let m := valueAt b 0 1 1 31
  let n := valueAt b 1 1 0 7
  ({ c with prescalerM := m.1, prescalerN := n.1 }, m.2 || n.2, false)

/-- R188: the hazard section over some settings, with its flag CLAMPED. -/
def loadHazard (b : List Byte) (c : Settings) : Settings × Bool × Bool :=
  let t := valueAt b 0 1 10 60
  ({ c with releaseTime := t.1 }, t.2, false)

/-- R187, R188: a section that is used when valid, and whose defaults stand otherwise. -/
def useSection (bytes : List Byte) (load : List Byte → Settings → Settings × Bool × Bool) (c : Settings) :
    Settings × SectionReport :=
  if areaValid bytes then
    let r := load bytes c
    (r.1, .of true r.2.1 r.2.2 false)
  else (c, .of false false false true)

/-- R189: the site digest of a valid site section: its check value, with 0 taken as 1. -/
def digestOf (site : List Byte) : Nat := max 1 (beNat (site.drop (site.length - 2)))

/-- What the loader hands out (R190). -/
structure Loaded where
  kind : StartKind
  cfg : Settings
  sections : SectionReports
  digest : Nat
  deriving DecidableEq, Repr

/-- R190: an UNCONFIGURED start: built-in defaults everywhere, DEFAULTED for the station section only, digest 0. -/
def unconfigured (m : Memory) : Loaded :=
  let report := fun a => SectionReport.of (areaValid (areaBytes m a)) false false false
  ⟨.unconfigured, .defaults,
    ⟨.of false false false true, report siteArea, report analogArea, report thermalArea, report hazardArea⟩, 0⟩

/-- R190: a CONFIGURED start. -/
def configuredStart (m : Memory) : Loaded :=
  let station := useSection (areaBytes m stationArea) loadStation .defaults
  let site := useSection (areaBytes m siteArea) loadSite station.1
  let analog := useSection (areaBytes m analogArea) loadAnalog site.1
  let thermal := useSection (areaBytes m thermalArea) loadThermal analog.1
  let hazard := useSection (areaBytes m hazardArea) loadHazard thermal.1
  ⟨.configured, hazard.1, ⟨station.2, site.2, analog.2, thermal.2, hazard.2⟩,
    if areaValid (areaBytes m siteArea) then digestOf (areaBytes m siteArea) else 0⟩

/-- R187, R190: what the loader finds in the memory as the port reads it. -/
def loadAll (m : Memory) : Loaded := if areaValid (areaBytes m stationArea) then configuredStart m else unconfigured m

/-- R187: a memory that does not acknowledge reads as every byte FFh, as an unwritten one does. -/
def portView (acknowledges : Bool) (m : Memory) : Memory := if acknowledges then m else []

/-! ## The finish (R190) -/

/-- R190: the loader's own state after its finish. -/
def LoaderState.finished (l : LoaderState) (acknowledges : Bool) (r : Loaded) : LoaderState :=
  { l with
    phase := .running
    startKind := some r.kind
    memoryFault := !acknowledges
    sections := r.sections
    digest := r.digest
    cfg := r.cfg }

/-- R65, R66, R69, R72, R85, R92: the hazard unit starts; the episode first cause is the record's when one is present. -/
def HazardState.started (h : HazardState) (image : Option LockoutImage) (releaseMs : Nat) : HazardState :=
  { h with
    image := image
    firstCause :=
      match image with
      | some i => if i.content.level.isSome then i.content.cause else .none
      | none => .none
    countdown := releaseMs
    firstEval := some 0
    sampleTimer := some 0
    smokeA := h.smokeA.begin
    smokeB := h.smokeB.begin
    callPoint := h.callPoint.begin
    door := h.door.begin
    hold := h.hold.begin
    dischargedInput := h.dischargedInput.begin }

/-- R1, R26, R54: the timers of the scan, the conversions and the tach windows. The first round is due at once in a CONFIGURED start. -/
def startConversions (w : Work) : Work :=
  updateScan (fun s => { s with timer := if w.loader.startKind = some .configured then some Config.scanMs else none })
    (updateAnalog (fun a => { a with currentTimer := some 0, gasTimer := some 0, temperatureTimer := some 0 })
      (updateThermal (fun t => { t with tachTimer := some 0 }) w))

/-- R95, R133, R136: the timers that start with their blocks. R135: in every start, the listen-only one among them, the first error window
starts and the idle count begins at 0. -/
def startTimers (w : Work) : Work :=
  updateLimit (fun l => { l with period := some 0 })
    (changeLine (fun l => { l with idle := 0, taken := false, window := some 0 })
      (updatePeers (fun p => { p with ageing := some 0 }) w))

/-- R85: a lockout record that is present makes the level LOCKOUT. -/
def startLevel (w : Work) : Work := if lockoutPresent w.hazard.image then changeLevel .lockout .lockoutStart w else w

/-- R187 to R190: the loader finishes, and every block starts. -/
def loaderFinishes (acknowledges : Bool) (w : Work) : Work :=
  if w.loader.phase = .loading then
    let m := portView acknowledges w.mem
    let w := updateLoader (fun l => l.finished acknowledges (loadAll m)) w
    let w := updateHazard (fun h => h.started (imageOf m) (w.loader.cfg.releaseTime * 1000)) w
    startLevel (startTimers (startConversions w))
  else w

/-! ## Resets (R5, R26, R27, R35, R44, R92, R95, R136, R149, R168, R186) -/

/-- R85: the two check bytes of a slot whose write a reset cut short: any but the good ones (log entry 11). -/
def tornCheck (fields : List Byte) (a b : Byte) : List Byte :=
  beBytes 2 (((crc16 fields).toNat + 1 + (256 * a.toNat + b.toNat) % 65535) % 65536)

/-- R85: what a slot holds after a write that a reset cut short (log entry 11). -/
def tornSlot (freeCount : Nat) : List Byte :=
  let free := fun i => Config.tornByte freeCount i
  let fields := (List.range 7).map free
  fields ++ tornCheck fields (free 7) (free 8) ++ (List.range 7).map fun i => free (9 + i)

/-- R85: a write in progress ends at the reset. -/
def tearWrite (w : Work) : Work :=
  match w.loader.writing with
  | some x =>
    { w with mem := Memory.writeBytes w.mem (slotAddress x.second) (tornSlot w.freeCount), freeCount := w.freeCount + 1 }
  | none => w

/-- Every block takes its reset values; the terminals and the memory keep theirs. Outputs that were closed or on open in the order of
R169. -/
def resetBlocks (loader : LoaderState) (w : Work) : Work :=
  let w := tearWrite w
  { w with
    loader := loader
    scan := .reset
    analog := .reset
    charge := .reset
    balance := .reset
    thermal := .reset w.thermal.feedback
    hazard :=
      .reset loader.cfg.releaseTime w.hazard.smokeA.band w.hazard.smokeB.band w.hazard.callPoint.terminal
        w.hazard.door.terminal w.hazard.hold.terminal w.hazard.dischargedInput.terminal
    limit := .reset
    line := .reset
    peers := .reset
    permit := .reset
    conn := { ConnState.reset with switching := switchesBetween w.conn.drives (drivesOf .opened) }
    key := keyReset w.key.terminal
    lamps := .reset
    notices := [] }

/-- Power is applied: the straps are read and the loader begins. -/
def powerApplied (straps : Nat) (w : Work) : Work := resetBlocks (.reset .loading straps) w

/-- The reset input is asserted; the strap reading stands until the next one. -/
def resetAsserted (w : Work) : Work := resetBlocks (.reset .held w.loader.straps) w

/-- R186, R190, R192: the reset input is released: the straps are read, the uptime starts from 0 and the loader begins. -/
def resetReleased (straps : Nat) (w : Work) : Work :=
  if w.loader.phase = .running then w else { w with loader := .reset .loading straps }

/-- R192: the greatest uptime. -/
def uptimeLimit : Nat := 4294967295

/-- R192: a second passes after the release of reset. -/
def secondPasses (w : Work) : Work :=
  if w.loader.phase = .held then w else updateLoader (fun l => { l with uptime := satSucc uptimeLimit l.uptime, second := some 0 }) w

/-! ## The key switch and the contacts (R66, R195) -/

/-- Changes the maintenance clear key switch. -/
def updateKey (f : ContactInput → ContactInput) (w : Work) : Work := { w with key := f w.key }

/-- R195: each block takes its maintenance clear. -/
def maintenanceClears (w : Work) : Work :=
  connMaintenanceClear (hazardMaintenanceClear (thermalMaintenanceClear (scanMaintenanceClear w)))

/-- R195: the key has held the active level for 100 ms after being inactive; before the loader finishes the turn is not taken. -/
def keyTurned (w : Work) : Work :=
  let turned := w.key.terminal && !w.key.taken
  let w := updateKey ContactInput.settle w
  if turned && w.running then maintenanceClears w else w

/-- R195: the key's settling has run its 100 ms. -/
def keySettles (w : Work) : Work := if w.key.timer.isSome then keyTurned w else w

/-- R195: the row that names the turn alone: the settling that ends is one toward the active level. -/
def keyTurns (w : Work) : Work := if w.key.timer.isSome && w.key.terminal && !w.key.taken then keyTurned w else w

/-- R66, R195: a contact's terminal changes level. The hazard unit's contacts settle once it runs; the key settles in every phase. -/
def terminalChanges (c : Contact) (active : Bool) (w : Work) : Work :=
  match c with
  | .callPoint => updateHazard (fun h => { h with callPoint := h.callPoint.moveTo w.running active }) w
  | .door => updateHazard (fun h => { h with door := h.door.moveTo w.running active }) w
  | .hold => updateHazard (fun h => { h with hold := h.hold.moveTo w.running active }) w
  | .discharged => updateHazard (fun h => { h with dischargedInput := h.dischargedInput.moveTo w.running active }) w
  | .keySwitch => updateKey (fun k => k.moveTo true active) w

/-- R66: the call point is taken as changed. -/
def callPointSettles (w : Work) : Work :=
  if w.hazard.callPoint.timer.isSome then
    let w := updateHazard (fun h => { h with callPoint := h.callPoint.settle }) w
    changeMember .manual w.hazard.callPoint.taken w
  else w

/-- R66, R78: the door is taken as changed; the countdown pauses or resumes. -/
def doorSettles (w : Work) : Work :=
  if w.hazard.door.timer.isSome then updateHazard (fun h => { h with door := h.door.settle }) w else w

/-- R66, R78: HOLD is taken as changed; the countdown pauses or resumes. -/
def holdSettles (w : Work) : Work :=
  if w.hazard.hold.timer.isSome then updateHazard (fun h => { h with hold := h.hold.settle }) w else w

/-- R66, R80, R81: DISCHARGED is taken as changed. -/
def dischargedSettles (w : Work) : Work :=
  if w.hazard.dischargedInput.timer.isSome then
    let w := updateHazard (fun h => { h with dischargedInput := h.dischargedInput.settle }) w
    if w.hazard.dischargedInput.taken then dischargedActive w else w
  else w

/-- R66, R195: a contact has held its new level for 100 ms. -/
def contactSettles (c : Contact) (w : Work) : Work :=
  match c with
  | .callPoint => callPointSettles w
  | .door => doorSettles w
  | .hold => holdSettles w
  | .discharged => dischargedSettles w
  | .keySwitch => keySettles w

/-! ## Lamps (R196) -/

/-- R196: a flashing lamp toggles at the end of its half period. -/
def LampState.toggle (l : LampState) : LampState :=
  match l.mode with
  | .flash1 => { l with lit := !l.lit }
  | .flash4 => { l with lit := !l.lit }
  | .off => l
  | .steady => l

/-- Changes the lamps. -/
def updateLamps (f : Lamps → Lamps) (w : Work) : Work := { w with lamps := f w.lamps }

/-- R196: the half period of a lamp ends. -/
def lampToggles (lamp : Lamp) (w : Work) : Work :=
  match lamp with
  | .run => updateLamps (fun l => { l with run := l.run.toggle }) w
  | .alert => updateLamps (fun l => { l with alert := l.alert.toggle }) w
  | .fault => updateLamps (fun l => { l with fault := l.fault.toggle }) w

end Sys2Proof.Machine
end

