-- ==== Sys2Proof/Machine/Commands.lean ====
section
/-! DEFINITION. The meanings of the 68 commands, in the order of spec/opcode_table.json: each is one effect of its owning block, run with the
notices it brings about and the lamps (`runCommand`). A command that cannot occur in the state it meets changes nothing (log entry 1). -/

namespace Sys2Proof.Machine

/-- R110, R114: the setpoint period expires: the share, the ramp step, and the setpoint handed to the connection unit. -/
def periodExpires (w : Work) : Work := if w.limit.period.isSome then connPeriod (setpointStep w) else w

/-- POWER_ON (R5, R27, R35, R44, R92, R95, R136, R149, R168, R186): power is applied. -/
def execPowerOn (straps : BitVec 5) (s : State) : Host.Outcome State Fault Refusal :=
  runCommand (powerApplied straps.toNat) s

/-- RESET_INPUT (R168 and the reset rules of every block): the reset input is asserted. -/
def execResetInput (s : State) : Host.Outcome State Fault Refusal :=
  runCommand resetAsserted s

/-- RESET_RELEASE (R186, R192): the reset input is released. -/
def execResetRelease (straps : BitVec 5) (s : State) : Host.Outcome State Fault Refusal :=
  runCommand (resetReleased straps.toNat) s

/-- LOADER_FINISH (R187 to R190): the loader finishes and every block starts. -/
def execLoaderFinish (memoryAcknowledges : Bool) (s : State) : Host.Outcome State Fault Refusal :=
  runCommand (loaderFinishes memoryAcknowledges) s

/-- UPTIME_SECOND (R192). -/
def execUptimeSecond (s : State) : Host.Outcome State Fault Refusal :=
  runCommand secondPasses s

/-- SCAN_ROUND_START (R1, R36). -/
def execScanRoundStart (s : State) : Host.Outcome State Fault Refusal :=
  runCommand startRound s

/-- MODULE_REQUEST_SENT (R1). -/
def execModuleRequestSent (s : State) : Host.Outcome State Fault Refusal :=
  runCommand requestSent s

/-- MODULE_REPORT (R2, R4, R17). -/
def execModuleReport (r : ModuleReport) (s : State) : Host.Outcome State Fault Refusal :=
  runCommand (takeReport r) s

/-- ANSWER_WINDOW_EXPIRY (R3, R4, R17). -/
def execAnswerWindowExpiry (n : Nat) (s : State) : Host.Outcome State Fault Refusal :=
  runCommand (expireWindow n) s

/-- CURRENT_CONVERSION (R21, R29, R40). -/
def execCurrentConversion (current : Int) (s : State) : Host.Outcome State Fault Refusal :=
  runCommand (convertCurrent current) s

/-- CALIBRATION_AT_FULL (R31). -/
def execCalibrationAtFull (s : State) : Host.Outcome State Fault Refusal :=
  runCommand calibrateFull s

/-- GAS_LOOP_CONVERSION (R23). -/
def execGasLoopConversion (currentA currentB : Nat) (s : State) : Host.Outcome State Fault Refusal :=
  runCommand (convertGas currentA currentB) s

/-- TEMPERATURE_CONVERSION (R25, R48). -/
def execTemperatureConversion (inlet outlet ambient : Int) (s : State) : Host.Outcome State Fault Refusal :=
  runCommand (convertTemperatures inlet outlet ambient) s

/-- FAST_TRIP_COMPARATOR (R22, R181). -/
def execFastTripComparator (d : Direction) (current : Int) (s : State) : Host.Outcome State Fault Refusal :=
  runCommand (compareTrip d current) s

/-- GAS_LEVEL_COMPARATOR (R24, R67). -/
def execGasLevelComparator (loop : DetectorLoop) (lvl : GasLevel) (ppm : Nat) (s : State) : Host.Outcome State Fault Refusal :=
  runCommand (compareLevel loop lvl ppm) s

/-- LOOP_FAULT_COMPARATOR (R23, R24, R67). -/
def execLoopFaultComparator (loop : DetectorLoop) (current : Nat) (s : State) : Host.Outcome State Fault Refusal :=
  runCommand (compareLoopFault loop current) s

/-- BALANCE_EVALUATION (R37 to R39). -/
def execBalanceEvaluation (s : State) : Host.Outcome State Fault Refusal :=
  runCommand evaluateBalance s

/-- MINIMUM_ON_TIMER_EXPIRY (R47). -/
def execMinimumOnTimerExpiry (s : State) : Host.Outcome State Fault Refusal :=
  runCommand minOnExpires s

/-- MINIMUM_OFF_TIMER_EXPIRY (R47, R50). -/
def execMinimumOffTimerExpiry (s : State) : Host.Outcome State Fault Refusal :=
  runCommand minOffExpires s

/-- RUN_FEEDBACK_CHANGE (R55, R62). -/
def execRunFeedbackChange (active : Bool) (s : State) : Host.Outcome State Fault Refusal :=
  runCommand (feedbackChanges active) s

/-- COMPRESSOR_START_MONITOR_EXPIRY (R55, R62). -/
def execCompressorStartMonitorExpiry (s : State) : Host.Outcome State Fault Refusal :=
  runCommand monitorExpires s

/-- TACH_PULSE (R54). -/
def execTachPulse (d : PwmDrive) (s : State) : Host.Outcome State Fault Refusal :=
  runCommand (tachPulses d) s

/-- TACH_WINDOW_END (R54, R58). -/
def execTachWindowEnd (s : State) : Host.Outcome State Fault Refusal :=
  runCommand tachWindowEnds s

/-- RETRY_TIMER_EXPIRY (R61). -/
def execRetryTimerExpiry (s : State) : Host.Outcome State Fault Refusal :=
  runCommand retryExpires s

/-- PWM_PERIOD_START (R53). -/
def execPwmPeriodStart (s : State) : Host.Outcome State Fault Refusal :=
  runCommand pwmPeriodStarts s

/-- SMOKE_LOOP_BAND_CHANGE (R65). -/
def execSmokeLoopBandChange (loop : DetectorLoop) (milliVolt : Nat) (s : State) : Host.Outcome State Fault Refusal :=
  runCommand (smokeBandMoves loop milliVolt) s

/-- SMOKE_LOOP_PERSISTENCE_EXPIRY (R65). -/
def execSmokeLoopPersistenceExpiry (loop : DetectorLoop) (s : State) : Host.Outcome State Fault Refusal :=
  runCommand (smokeSettles loop) s

/-- CONTACT_TERMINAL_CHANGE (R66, R195). -/
def execContactTerminalChange (c : Contact) (active : Bool) (s : State) : Host.Outcome State Fault Refusal :=
  runCommand (terminalChanges c active) s

/-- CONTACT_INPUT_SETTLED (R66, R78, R80, R81, R195). -/
def execContactInputSettled (c : Contact) (s : State) : Host.Outcome State Fault Refusal :=
  runCommand (contactSettles c) s

/-- HEAT_RISE_SAMPLE (R69). -/
def execHeatRiseSample (s : State) : Host.Outcome State Fault Refusal :=
  runCommand heatSamples s

/-- HAZARD_FIRST_EVALUATION (R72, R81, R86). -/
def execHazardFirstEvaluation (s : State) : Host.Outcome State Fault Refusal :=
  runCommand firstEvaluation s

/-- ESCALATION_TIMER_EXPIRY (R73). -/
def execEscalationTimerExpiry (s : State) : Host.Outcome State Fault Refusal :=
  runCommand escalates s

/-- FALL_BACK_TIMER_EXPIRY (R73). -/
def execFallBackTimerExpiry (s : State) : Host.Outcome State Fault Refusal :=
  runCommand fallsBack s

/-- QUIET_TIMER_EXPIRY (R74). -/
def execQuietTimerExpiry (s : State) : Host.Outcome State Fault Refusal :=
  runCommand quietEnds s

/-- COUNTDOWN_END (R79). -/
def execCountdownEnd (s : State) : Host.Outcome State Fault Refusal :=
  runCommand countdownEnds s

/-- DISCHARGE_CONFIRMATION_EXPIRY (R80). -/
def execDischargeConfirmationExpiry (s : State) : Host.Outcome State Fault Refusal :=
  runCommand confirmationExpires s

/-- LOCKOUT_WRITE_START (R83, R191). -/
def execLockoutWriteStart (s : State) : Host.Outcome State Fault Refusal :=
  runCommand startWrite s

/-- LOCKOUT_WRITE_COMPLETION (R83, R84, R191). -/
def execLockoutWriteCompletion (acknowledged : Bool) (held : List Byte) (s : State) : Host.Outcome State Fault Refusal :=
  runCommand (endWrite acknowledged held) s

/-- LOCKOUT_RETRY_EXPIRY (R84). -/
def execLockoutRetryExpiry (s : State) : Host.Outcome State Fault Refusal :=
  runCommand retryWrite s

/-- MAINTENANCE_CLEAR (R19, R56, R90, R91, R183, R195). -/
def execMaintenanceClear (s : State) : Host.Outcome State Fault Refusal :=
  runCommand keyTurns s

/-- SETPOINT_PERIOD (R110, R170, R171, R178). -/
def execSetpointPeriod (s : State) : Host.Outcome State Fault Refusal :=
  runCommand periodExpires s

/-- CONVERTER_ANSWER (R171, R172, R174 to R180). -/
def execConverterAnswer (a : ConverterAnswer) (s : State) : Host.Outcome State Fault Refusal :=
  runCommand (connAnswer a) s

/-- GRID_HEALTHY_DELAY_REACHED (R172, R173). -/
def execGridHealthyDelayReached (s : State) : Host.Outcome State Fault Refusal :=
  runCommand gridDelayReached s

/-- PRECHARGE_TIMEOUT (R175, R177). -/
def execPrechargeTimeout (s : State) : Host.Outcome State Fault Refusal :=
  runCommand prechargeTimesOut s

/-- READY_TIMEOUT (R176, R177). -/
def execReadyTimeout (s : State) : Host.Outcome State Fault Refusal :=
  runCommand readyTimesOut s

/-- RIDE_THROUGH_EXPIRED (R179). -/
def execRideThroughExpired (s : State) : Host.Outcome State Fault Refusal :=
  runCommand rideTimesOut s

/-- DISCONNECT_WAIT_EXPIRY (R180). -/
def execDisconnectWaitExpiry (s : State) : Host.Outcome State Fault Refusal :=
  runCommand disconnectTimesOut s

/-- VISIBILITY_TIMER_EXPIRY (R174, R177, R180). -/
def execVisibilityTimerExpiry (s : State) : Host.Outcome State Fault Refusal :=
  runCommand visibilityExpires s

/-- RETRY_DELAY_EXPIRY (R181, R183). -/
def execRetryDelayExpiry (s : State) : Host.Outcome State Fault Refusal :=
  runCommand retryDelayEnds s

/-- RECEIVER_IDLE_REACHED (R121, R144). -/
def execReceiverIdleReached (s : State) : Host.Outcome State Fault Refusal :=
  runCommand lineQuiet s

/-- RECEIVE_FAULT (R121). -/
def execReceiveFault (f : ReceiveFault) (s : State) : Host.Outcome State Fault Refusal :=
  runCommand (receiveFaults f) s

/-- FRAME_COMPLETE (R121 to R123, R134). -/
def execFrameComplete (c : Byte) (s : State) : Host.Outcome State Fault Refusal :=
  runCommand (lastCharacter c) s

/-- TRANSMIT_START (R125, R129 to R132). `idle` is the line's idle count at the event (log entry 7). -/
def execTransmitStart (s : State) : Host.Outcome State Fault Refusal :=
  runCommand transmits s

/-- DEFERRAL (R126). -/
def execDeferral (s : State) : Host.Outcome State Fault Refusal :=
  runCommand defers s

/-- COLLISION (R127, R129). -/
def execCollision (s : State) : Host.Outcome State Fault Refusal :=
  runCommand collide s

/-- FRAME_SENT (R128, R145, R159). -/
def execFrameSent (s : State) : Host.Outcome State Fault Refusal :=
  runCommand frameIsSent s

/-- ERROR_WINDOW_END (R133, R165). -/
def execErrorWindowEnd (s : State) : Host.Outcome State Fault Refusal :=
  runCommand windowEnds s

/-- PEER_AGEING_TICK (R138). -/
def execPeerAgeingTick (s : State) : Host.Outcome State Fault Refusal :=
  runCommand ageEntries s

/-- STALENESS_TIMER_EXPIRY (R143). -/
def execStalenessTimerExpiry (s : State) : Host.Outcome State Fault Refusal :=
  runCommand dispatchStales s

/-- LISTENING_TIMER_EXPIRY (R144). -/
def execListeningTimerExpiry (s : State) : Host.Outcome State Fault Refusal :=
  runCommand listeningEnds s

/-- LEARNING_TIMER_EXPIRY (R145). -/
def execLearningTimerExpiry (s : State) : Host.Outcome State Fault Refusal :=
  runCommand learningEnds s

/-- STATUS_TIMER_EXPIRY (R146). -/
def execStatusTimerExpiry (s : State) : Host.Outcome State Fault Refusal :=
  runCommand statusDue s

/-- ASK_ONE_SECOND_CHECK (R155). -/
def execAskOneSecondCheck (s : State) : Host.Outcome State Fault Refusal :=
  runCommand oneSecondCheck s

/-- ASK_THIRTY_SECOND_CHECK (R156). -/
def execAskThirtySecondCheck (s : State) : Host.Outcome State Fault Refusal :=
  runCommand thirtySecondCheck s

/-- HOLD_LIMIT_EXPIRY (R158). -/
def execHoldLimitExpiry (s : State) : Host.Outcome State Fault Refusal :=
  runCommand holdLimit s

/-- BACKOFF_EXPIRY (R162). -/
def execBackoffExpiry (s : State) : Host.Outcome State Fault Refusal :=
  runCommand backoffEnds s

/-- LAMP_FLASH_TICK (R196). -/
def execLampFlashTick (lamp : Lamp) (s : State) : Host.Outcome State Fault Refusal :=
  runCommand (lampToggles lamp) s

/-- CHARACTER_TAKEN (R121, R122). -/
def execCharacterTaken (c : Byte) (s : State) : Host.Outcome State Fault Refusal :=
  runCommand (characterArrives c) s

end Sys2Proof.Machine
end

