-- ==== Sys2Proof/Machine/Dispatch.lean ====
section
/-! DEFINITION. One arm per command. -/

namespace Sys2Proof.Machine

def exec (i : Instr) (s : State) : Host.Outcome State Fault Refusal :=
  match i with
  | .powerOn straps => Sys2Proof.Machine.execPowerOn straps s
  | .resetInput => Sys2Proof.Machine.execResetInput s
  | .resetRelease straps => Sys2Proof.Machine.execResetRelease straps s
  | .loaderFinish memoryAcknowledges => Sys2Proof.Machine.execLoaderFinish memoryAcknowledges s
  | .uptimeSecond => Sys2Proof.Machine.execUptimeSecond s
  | .scanRoundStart => Sys2Proof.Machine.execScanRoundStart s
  | .moduleRequestSent => Sys2Proof.Machine.execModuleRequestSent s
  | .moduleReport r => Sys2Proof.Machine.execModuleReport r s
  | .answerWindowExpiry n => Sys2Proof.Machine.execAnswerWindowExpiry n s
  | .currentConversion current => Sys2Proof.Machine.execCurrentConversion current s
  | .calibrationAtFull => Sys2Proof.Machine.execCalibrationAtFull s
  | .gasLoopConversion currentA currentB => Sys2Proof.Machine.execGasLoopConversion currentA currentB s
  | .temperatureConversion inlet outlet ambient => Sys2Proof.Machine.execTemperatureConversion inlet outlet ambient s
  | .fastTripComparator d current => Sys2Proof.Machine.execFastTripComparator d current s
  | .gasLevelComparator loop lvl ppm => Sys2Proof.Machine.execGasLevelComparator loop lvl ppm s
  | .loopFaultComparator loop current => Sys2Proof.Machine.execLoopFaultComparator loop current s
  | .balanceEvaluation => Sys2Proof.Machine.execBalanceEvaluation s
  | .minimumOnTimerExpiry => Sys2Proof.Machine.execMinimumOnTimerExpiry s
  | .minimumOffTimerExpiry => Sys2Proof.Machine.execMinimumOffTimerExpiry s
  | .runFeedbackChange active => Sys2Proof.Machine.execRunFeedbackChange active s
  | .compressorStartMonitorExpiry => Sys2Proof.Machine.execCompressorStartMonitorExpiry s
  | .tachPulse d => Sys2Proof.Machine.execTachPulse d s
  | .tachWindowEnd => Sys2Proof.Machine.execTachWindowEnd s
  | .retryTimerExpiry => Sys2Proof.Machine.execRetryTimerExpiry s
  | .pwmPeriodStart => Sys2Proof.Machine.execPwmPeriodStart s
  | .smokeLoopBandChange loop milliVolt => Sys2Proof.Machine.execSmokeLoopBandChange loop milliVolt s
  | .smokeLoopPersistenceExpiry loop => Sys2Proof.Machine.execSmokeLoopPersistenceExpiry loop s
  | .contactTerminalChange c active => Sys2Proof.Machine.execContactTerminalChange c active s
  | .contactInputSettled c => Sys2Proof.Machine.execContactInputSettled c s
  | .heatRiseSample => Sys2Proof.Machine.execHeatRiseSample s
  | .hazardFirstEvaluation => Sys2Proof.Machine.execHazardFirstEvaluation s
  | .escalationTimerExpiry => Sys2Proof.Machine.execEscalationTimerExpiry s
  | .fallBackTimerExpiry => Sys2Proof.Machine.execFallBackTimerExpiry s
  | .quietTimerExpiry => Sys2Proof.Machine.execQuietTimerExpiry s
  | .countdownEnd => Sys2Proof.Machine.execCountdownEnd s
  | .dischargeConfirmationExpiry => Sys2Proof.Machine.execDischargeConfirmationExpiry s
  | .lockoutWriteStart => Sys2Proof.Machine.execLockoutWriteStart s
  | .lockoutWriteCompletion acknowledged held => Sys2Proof.Machine.execLockoutWriteCompletion acknowledged held s
  | .lockoutRetryExpiry => Sys2Proof.Machine.execLockoutRetryExpiry s
  | .maintenanceClear => Sys2Proof.Machine.execMaintenanceClear s
  | .setpointPeriod => Sys2Proof.Machine.execSetpointPeriod s
  | .converterAnswer a => Sys2Proof.Machine.execConverterAnswer a s
  | .gridHealthyDelayReached => Sys2Proof.Machine.execGridHealthyDelayReached s
  | .prechargeTimeout => Sys2Proof.Machine.execPrechargeTimeout s
  | .readyTimeout => Sys2Proof.Machine.execReadyTimeout s
  | .rideThroughExpired => Sys2Proof.Machine.execRideThroughExpired s
  | .disconnectWaitExpiry => Sys2Proof.Machine.execDisconnectWaitExpiry s
  | .visibilityTimerExpiry => Sys2Proof.Machine.execVisibilityTimerExpiry s
  | .retryDelayExpiry => Sys2Proof.Machine.execRetryDelayExpiry s
  | .receiverIdleReached => Sys2Proof.Machine.execReceiverIdleReached s
  | .receiveFault f => Sys2Proof.Machine.execReceiveFault f s
  | .frameComplete c => Sys2Proof.Machine.execFrameComplete c s
  | .transmitStart => Sys2Proof.Machine.execTransmitStart s
  | .deferral => Sys2Proof.Machine.execDeferral s
  | .collision => Sys2Proof.Machine.execCollision s
  | .frameSent => Sys2Proof.Machine.execFrameSent s
  | .errorWindowEnd => Sys2Proof.Machine.execErrorWindowEnd s
  | .peerAgeingTick => Sys2Proof.Machine.execPeerAgeingTick s
  | .stalenessTimerExpiry => Sys2Proof.Machine.execStalenessTimerExpiry s
  | .listeningTimerExpiry => Sys2Proof.Machine.execListeningTimerExpiry s
  | .learningTimerExpiry => Sys2Proof.Machine.execLearningTimerExpiry s
  | .statusTimerExpiry => Sys2Proof.Machine.execStatusTimerExpiry s
  | .askOneSecondCheck => Sys2Proof.Machine.execAskOneSecondCheck s
  | .askThirtySecondCheck => Sys2Proof.Machine.execAskThirtySecondCheck s
  | .holdLimitExpiry => Sys2Proof.Machine.execHoldLimitExpiry s
  | .backoffExpiry => Sys2Proof.Machine.execBackoffExpiry s
  | .lampFlashTick lamp => Sys2Proof.Machine.execLampFlashTick lamp s
  | .characterTaken c => Sys2Proof.Machine.execCharacterTaken c s

end Sys2Proof.Machine
end

