-- ==== Sys2Proof/Machine/Tick.lean ====
section
/-! DEFINITION. One millisecond of the part's time base, which passes on an empty queue (DESIGN CHOICE, log entry 2): running timers
rise and stay at the time at which they expire, the release countdown falls while it runs, and the idle count rises. Nothing expires
here: an expiry is a command. -/

namespace Sys2Proof.Machine

/-- A running timer rises by one millisecond, up to a limit. -/
def Timer.rise (limit : Nat) (t : Timer) : Timer := t.map (satSucc limit)

/-- The limit of the connection unit's state timer. -/
def stateLimit (cfg : Settings) : ConnPhase → Nat
  | .precharging => 5000
  | .dcClosed => 2000
  | .rideThrough => cfg.rideThrough * 1000
  | .disconnecting => 2000
  | .tripped => 60000
  | .opened => 0
  | .waitPermit => 0
  | .connected => 0
  | .locked => 0

/-- A contact's settling. -/
def ContactInput.rise (c : ContactInput) : ContactInput := { c with timer := Timer.rise Config.settlingMs c.timer }

/-- A smoke loop's persistence. -/
def SmokeLoop.rise (l : SmokeLoop) : SmokeLoop := { l with timer := Timer.rise Config.persistenceMs l.timer }

/-- The running second and the time of the lockout write in progress. -/
def LoaderState.tick (l : LoaderState) : LoaderState :=
  { l with
    second := Timer.rise Config.secondMs l.second
    writeTimer := Timer.rise Config.lockoutWriteMs l.writeTimer }

/-- The error window, and the idle bit-times, which count only once the line interface has started and while the line is not taken
(R116, R135). -/
def LineState.tick (l : LineState) (started : Bool) : LineState :=
  { l with
    idle := if started && !l.taken then l.idle + Config.bitsPerMs else l.idle
    window := Timer.rise Config.errorWindowMs l.window }

/-- The thermal unit's timers. -/
def ThermalState.tick (t : ThermalState) : ThermalState :=
  { t with
    tachTimer := Timer.rise Config.tachWindowMs t.tachTimer
    minOn := Timer.rise Config.minOnMs t.minOn
    minOff := Timer.rise Config.minOffMs t.minOff
    monitor := Timer.rise Config.monitorMs t.monitor
    retry := Timer.rise Config.auxRetryMs t.retry }

/-- The scan timer and the answer windows. -/
def ScanState.tick (s : ScanState) : ScanState :=
  { s with
    timer := Timer.rise Config.scanMs s.timer
    answers := s.answers.map (Timer.rise Config.answerWindowMs) }

/-- The conversion timers. -/
def AnalogState.tick (a : AnalogState) : AnalogState :=
  { a with
    currentTimer := Timer.rise Config.currentMs a.currentTimer
    gasTimer := Timer.rise Config.gasMs a.gasTimer
    temperatureTimer := Timer.rise Config.temperatureMs a.temperatureTimer }

/-- The hazard unit's timers and its countdown (R78). -/
def HazardState.tick (h : HazardState) : HazardState :=
  { h with
    smokeA := h.smokeA.rise
    smokeB := h.smokeB.rise
    callPoint := h.callPoint.rise
    door := h.door.rise
    hold := h.hold.rise
    dischargedInput := h.dischargedInput.rise
    countdown := if h.countsDown then h.countdown - 1 else h.countdown
    confirm := Timer.rise Config.confirmationMs h.confirm
    escalation := Timer.rise Config.escalationMs h.escalation
    fallBack := Timer.rise Config.fallBackMs h.fallBack
    quiet := Timer.rise Config.fallBackMs h.quiet
    firstEval := Timer.rise Config.firstEvaluationMs h.firstEval
    sampleTimer := Timer.rise Config.heatSampleMs h.sampleTimer
    retry := Timer.rise Config.lockoutRetryMs h.retry }

/-- The permit unit's timers. -/
def PermitState.tick (p : PermitState) (own : Nat) : PermitState :=
  { p with
    ask := Timer.rise Config.askMs p.ask
    hold := Timer.rise Config.holdMs p.hold
    backoff := Timer.rise (Config.backoffMs own) p.backoff }

/-- The peer table's timers. -/
def PeerState.tick (p : PeerState) : PeerState :=
  { p with
    dispatch := { p.dispatch with staleness := Timer.rise Config.stalenessMs p.dispatch.staleness }
    ageing := Timer.rise Config.ageingMs p.ageing
    listening := Timer.rise Config.listeningMs p.listening
    learning := Timer.rise Config.learningMs p.learning
    status := Timer.rise Config.statusMs p.status }

/-- The connection unit's timers. -/
def ConnState.tick (c : ConnState) (cfg : Settings) : ConnState :=
  { c with
    gridTimer := Timer.rise (cfg.reconnectDelay * 1000) c.gridTimer
    stateTimer := Timer.rise (stateLimit cfg c.phase) c.stateTimer
    visibilityTimer := Timer.rise Config.visibilityMs c.visibilityTimer }

/-- One millisecond passes. -/
def tick (s : State) : State :=
  { s with
    loader := s.loader.tick
    scan := s.scan.tick
    analog := s.analog.tick
    charge := { s.charge with fullTimer := Timer.rise Config.fullCalibrationMs s.charge.fullTimer }
    balance := { s.balance with evalTimer := Timer.rise Config.evaluationMs s.balance.evalTimer }
    thermal := s.thermal.tick
    hazard := s.hazard.tick
    limit := { s.limit with period := Timer.rise Config.setpointPeriodMs s.limit.period }
    line := s.line.tick (decide (s.loader.phase = .running))
    peers := s.peers.tick
    permit := s.permit.tick s.loader.straps
    conn := s.conn.tick s.loader.cfg
    key := s.key.rise }

end Sys2Proof.Machine
end

