-- ==== Sys2Proof/Safety.lean ====
section
/-! DEFINITION. What a safe state is, in the terms the statements use: invariants that every step keeps, and the conditions under which
the blocks run; and, for the frames, what a command of each kind can reach. -/

namespace Sys2Proof

/-- The commands of the start and the resets: the only ones that change what the loader fixed. -/
def Instr.starts : Instr → Bool
  | .powerOn _ => true
  | .resetInput => true
  | .resetRelease _ => true
  | .loaderFinish _ => true
  | _ => false

/-- The two commands that put every block at its reset values. -/
def Instr.resets : Instr → Bool
  | .powerOn _ => true
  | .resetInput => true
  | _ => false

end Sys2Proof

namespace Sys2Proof.Machine

/-- Every block has started (R190). -/
def State.Running (s : State) : Prop := s.loader.phase = .running

/-- The start is CONFIGURED and every block has started (R190). -/
def State.Configured (s : State) : Prop := s.loader.phase = .running ∧ s.loader.startKind = some .configured

/-- Every contactor drive is open and the converter enable is off (R169). -/
def State.DrivesOpen (s : State) : Prop := s.conn.drives = ⟨false, false, false, false⟩

/-- The drive outputs are those of the connection state (R169). -/
def State.DrivesFollow (s : State) : Prop := s.conn.drives = drivesOf s.conn.phase

/-- The RELEASE output is on exactly while the level is RELEASING (R79, R80). -/
def State.ReleaseFollows (s : State) : Prop := s.hazard.release = decide (s.hazard.level = .releasing)

/-- The configuration memory has its canonical form. -/
def State.MemoryCanonical (s : State) : Prop := Memory.wf s.mem

/-- From PRE_ALARM on no cell is chosen for bleeding (R37, R40). -/
def State.HazardStopsBleeding (s : State) : Prop := s.hazard.level.isPre = true → ∀ set ∈ s.balance.sets, set = []

/-- Outside CONNECTED the setpoint is 0 (R106, R112). -/
def State.SetpointRests (s : State) : Prop := s.conn.phase ≠ .connected → s.limit.setpoint = 0

/-- The setpoint lies within the capability of its own direction (R111). -/
def State.SetpointWithin (s : State) : Prop := -(s.limit.cChg : Int) ≤ s.limit.setpoint ∧ s.limit.setpoint ≤ s.limit.cDis

/-- The derates that limit and share uses are those that the thermal unit, the hazard unit and the scan unit report (R58, R100). -/
structure State.DeratesFollow (s : State) : Prop where
  thermal : s.thermal.derate = thermalDerateOf s.thermal
  stored : s.limit.thermalDerate = s.thermal.derate
  hazard : s.limit.hazardDerate = hazardDerateOf s.hazard.level s.hazard.neighbourAlarm
  visibility : s.limit.visibility = visibilityFactorOf s.scan.visibilityLost

/-- R18: VISIBILITY_LOST is set exactly while a module 1..M is LOST or BLIND; before the start no round runs and no module is either. -/
structure State.VisibilityFollows (s : State) : Prop where
  flag : s.scan.visibilityLost = visibilityLostOf s.loader.cfg.moduleCount s.scan.modules
  unstarted : s.loader.phase ≠ .running → s.scan.round = none ∧ ∀ m ∈ s.scan.modules, m.check ≠ .lost ∧ m.check ≠ .blind

/-- Before the start no round runs and no summary has reached limit and share (R4, R95); and each capability is the one of R101. -/
structure State.CapabilityFollows (s : State) : Prop where
  unstarted : s.loader.phase ≠ .running → s.scan.round = none ∧ s.limit.summaryPresent = false
  discharge : s.limit.cDis =
    capability s.limit.summaryPresent s.limit.pDis (min s.limit.thermalDerate (min s.limit.hazardDerate s.limit.visibility))
      s.loader.cfg.rating
  charge : s.limit.cChg =
    capability s.limit.summaryPresent s.limit.pChg (min s.limit.thermalDerate (min s.limit.hazardDerate s.limit.visibility))
      s.loader.cfg.rating

/-- Before the start the hazard unit stands at its reset values, with no timer that could move its level; in the UNCONFIGURED start the
connection unit stays in OPEN (R184); and at ALARM or above a connection unit that runs is LOCKED with the reason HAZARD (R182). -/
structure State.AlarmLocks (s : State) : Prop where
  unstarted : s.loader.phase ≠ .running →
    s.hazard.level = .clear ∧ s.hazard.evaluated = false ∧ s.hazard.escalation = none ∧ s.hazard.fallBack = none
      ∧ s.hazard.quiet = none ∧ s.hazard.firstEval = none ∧ s.conn.phase = .opened
  unconfigured : s.loader.startKind ≠ some .configured → s.conn.phase = .opened
  locked : s.Configured → s.hazard.level.isAlarm = true → s.conn.phase = .locked ∧ s.conn.locks.hazard = true

/-- At a latched level none of the timers of R73 and R74 runs. -/
def State.LatchedTimersStopped (s : State) : Prop :=
  s.hazard.level.isAlarm = true → s.hazard.escalation = none ∧ s.hazard.fallBack = none ∧ s.hazard.quiet = none

/-- R49: the set holds a gas cause. -/
def GasCause (set : List Indication) : Prop := .gasAL1 ∈ set ∨ .gasAL2 ∈ set ∨ .gasBL1 ∈ set ∨ .gasBL2 ∈ set

/-- R49: the forced mode is the one of the hazard level and the indication set. -/
structure State.ForcedFollows (s : State) : Prop where
  quiet : s.hazard.level = .clear ∨ s.hazard.level = .watch → s.thermal.forced = .none
  purge : s.hazard.level = .preAlarm → GasCause s.hazard.set → s.thermal.forced = .purge
  cool : s.hazard.level = .preAlarm → ¬ GasCause s.hazard.set → s.thermal.forced = .coolForced
  sealed : s.hazard.level.isAlarm = true → s.thermal.forced = .sealed

/-- R52, R56, R57: the duties set, the on/off outputs and the announced demand are those of the row in force: the forced mode's, or else
the stage's. The compressor is on only where the row wants it on and COMPRESSOR_FAILED is clear. -/
structure State.RowInForce (s : State) : Prop where
  duties : (s.thermal.pump.dutySet, s.thermal.fan1.dutySet, s.thermal.fan2.dutySet) =
    match s.thermal.forced, s.thermal.stage with
    | .none, .off => (0, 0, 0) | .none, .circulate => (32, 0, 0) | .none, .cool1 => (48, 40, 40) | .none, .cool2 => (63, 63, 63)
    | .none, .heat => (32, 0, 0) | .coolForced, _ => (63, 63, 63) | .purge, _ => (32, 63, 63) | .sealed, _ => (63, 0, 0)
  heater : s.thermal.heater = true ↔ s.thermal.forced = .none ∧ s.thermal.stage = .heat
  damper : s.thermal.damper = true ↔ s.thermal.forced = .purge
  exhaust : s.thermal.exhaust = true ↔ s.thermal.forced = .purge
  aux : s.thermal.aux =
    match s.thermal.forced, s.thermal.stage with
    | .none, .off => 0 | .none, .circulate => 2 | .none, .cool1 => 18 | .none, .cool2 => 30 | .none, .heat => 12
    | .coolForced, _ => 30 | .purge, _ => 6 | .sealed, _ => 2
  compressor : s.thermal.compressor = true →
    s.thermal.compressorFailed = false
      ∧ (s.thermal.forced = .coolForced ∨ (s.thermal.forced = .none ∧ (s.thermal.stage = .cool1 ∨ s.thermal.stage = .cool2)))

/-- R49, R58, R59, R61: a stage is wanted, and AUX_WAIT set, exactly while a need waits or is to be tried again; the retry timer runs exactly
in RETRY; and no need is pursued in a forced mode. -/
structure State.NeedFollows (s : State) : Prop where
  wanted : s.thermal.wanted.isSome = true ↔ s.thermal.need = .waiting ∨ s.thermal.need = .retry
  auxWait : s.thermal.auxWait = true ↔ s.thermal.need = .waiting ∨ s.thermal.need = .retry
  retry : s.thermal.retry ≠ none ↔ s.thermal.need = .retry
  forced : s.thermal.forced ≠ .none → s.thermal.need = .none

/-- The thermal unit follows the hazard level, its row and its need. -/
def State.ThermalFollows (s : State) : Prop := s.ForcedFollows ∧ s.RowInForce ∧ s.NeedFollows

/-- R125: while no frame is being sent, outside the listen-only start, the frame in hand is that of the highest class whose store is not
empty, and the transmitter is WAITING exactly while there is one. Before the start the stores are empty, and nothing that could place a frame
in them is under way. -/
structure State.HandFollows (s : State) : Prop where
  unstarted : s.loader.phase ≠ .running →
    s.line.urgent = none ∧ s.line.permits = [] ∧ s.line.replies = [] ∧ s.line.routine = [] ∧ s.line.tx = .idle ∧ s.line.inHand = none
      ∧ s.permit.phase = .idle ∧ s.peers.listening = none ∧ s.peers.status = none
  hand : s.loader.listenOnly = false → s.line.tx ≠ .sending →
    s.line.inHand =
      if s.line.urgent ≠ none then some .urgent
      else if s.line.permits ≠ [] then some .permit
      else if s.line.replies ≠ [] then some .reply
      else if s.line.routine ≠ [] then some .routine
      else none
  waiting : s.loader.listenOnly = false → s.line.tx ≠ .sending → (s.line.tx = .waiting ↔ s.line.inHand ≠ none)

/-- A lamp that is driven steadily is lit, and one that is off is dark (R196). -/
def LampState.Lit (l : LampState) : Prop := (l.mode = .steady → l.lit = true) ∧ (l.mode = .off → l.lit = false)

/-- Every lamp output is the one its drive asks for where the spec says it (R196). -/
def State.LampsLit (s : State) : Prop := s.lamps.run.Lit ∧ s.lamps.alert.Lit ∧ s.lamps.fault.Lit

/-! ## The connection state after an orderly cause -/

/-- R112, R168, R169, R174, R177, R180, R183: what an orderly cause at `s` leaves at `t`. CONNECTED and RIDE_THROUGH become DISCONNECTING; a
sequence is aborted without a failure counted, and the need of WAIT_PERMIT is withdrawn: with every drive open, in LOCKED for DUPLICATE and in
OPEN for any other cause. -/
structure State.OrderlyEnd (s t : State) (cause : ExitCause) : Prop where
  delivering : s.conn.phase = .connected ∨ s.conn.phase = .rideThrough →
    t.conn.phase = .disconnecting ∧ t.conn.stateTimer = some 0 ∧ t.conn.drives = ⟨true, false, true, true⟩
      ∧ t.conn.exitPending = some cause ∧ t.conn.lastExit = some ⟨cause, s.conn.phase, s.loader.uptime⟩
      ∧ (s.conn.phase = .connected → t.limit.setpoint = 0)
  sequence : s.conn.phase = .precharging ∨ s.conn.phase = .dcClosed →
    t.conn.phase = (if cause = .duplicate then .locked else .opened) ∧ t.DrivesOpen ∧ t.conn.stateTimer = none
      ∧ t.conn.failures = s.conn.failures ∧ t.conn.lastExit = some ⟨cause, s.conn.phase, s.loader.uptime⟩
  waiting : s.conn.phase = .waitPermit →
    t.conn.phase = (if cause = .duplicate then .locked else .opened) ∧ t.DrivesOpen ∧ t.conn.failures = s.conn.failures
      ∧ t.conn.lastExit = s.conn.lastExit ∧ ∀ need ∈ t.permit.queue, need.purpose ≠ .precharge
  duplicate : cause = .duplicate → t.conn.phase = .locked → t.conn.locks.duplicate = true

/-- R168, R180: the last exit at the end of an orderly disconnection that `cause` began: R180 gives it that cause and R168 the value 17,
DISCONNECTED; which of the two is a free value (log entry 13). -/
def State.DisconnectionEnds (s t : State) (cause : ExitCause) : Prop :=
  t.conn.lastExit = some ⟨cause, .disconnecting, s.loader.uptime⟩
    ∨ t.conn.lastExit = some ⟨.disconnected, .disconnecting, s.loader.uptime⟩

/-! ## Frames -/

/-- Only the permit unit's clients, the permit unit, limit and share, the line interface and the lamps may have changed. -/
def State.ClientFrame (s t : State) : Prop :=
  t = { s with
        thermal := t.thermal, limit := t.limit, line := t.line, permit := t.permit, conn := t.conn
        lamps := t.lamps, freeCount := t.freeCount }

/-- Only the hazard unit, what a change of its set or level reaches (R70, R76) and the lamps may have changed. -/
def State.HazardFrame (s t : State) : Prop :=
  t = { s with
        loader := { s.loader with writeStore := t.loader.writeStore }
        balance := t.balance, thermal := t.thermal, hazard := t.hazard, limit := t.limit, line := t.line
        permit := t.permit, conn := t.conn, lamps := t.lamps, freeCount := t.freeCount }

/-- The state right after power-on or the reset input: every block at its reset values; the terminals keep their levels. -/
structure State.AtReset (s t : State) (loader : LoaderState) : Prop where
  loader : t.loader = loader
  scan : t.scan = .reset
  analog : t.analog = .reset
  charge : t.charge = .reset
  balance : t.balance = .reset
  thermal : t.thermal = .reset s.thermal.feedback
  hazard : t.hazard =
    .reset 30 s.hazard.smokeA.band s.hazard.smokeB.band s.hazard.callPoint.terminal s.hazard.door.terminal
      s.hazard.hold.terminal s.hazard.dischargedInput.terminal
  limit : t.limit = .reset
  line : t.line = .reset
  peers : t.peers = .reset
  permit : t.permit = .reset
  conn : t.conn = { ConnState.reset with switching := switchesBetween s.conn.drives ⟨false, false, false, false⟩ }
  key : t.key = keyReset s.key.terminal
  lamps : t.lamps = .reset
  pending : t.pending = s.pending

/-! ## What the loader hands out (R188, R189) -/

/-- R188: the unsigned value of `n` bytes at byte `i` of an area, raised or lowered into its range. -/
def clampedAt (m : Memory) (a : Area) (i n lo hi : Nat) : Nat := max lo (min hi (beNat (slice (areaBytes m a) i n)))

/-- R188: an unsigned value of an area lies outside its range. -/
def outOfRange (m : Memory) (a : Area) (i n lo hi : Nat) : Prop :=
  beNat (slice (areaBytes m a) i n) < lo ∨ hi < beNat (slice (areaBytes m a) i n)

/-- R188: the breakpoint at byte `i` of the station section, raised or lowered into −40.0..125.0 °C. -/
def breakpointAt (m : Memory) (i : Nat) : Int := max (-400) (min 1250 (beInt (slice (areaBytes m stationArea) i 2)))

/-- R94: the four breakpoints from byte `i` of the station section are ordered. -/
def orderedAt (m : Memory) (i : Nat) : Prop :=
  breakpointAt m i < breakpointAt m (i + 2) ∧ breakpointAt m (i + 2) ≤ breakpointAt m (i + 4)
    ∧ breakpointAt m (i + 4) < breakpointAt m (i + 6)

/-- R188: where the unsigned values of the station section stand, with their lengths and ranges. -/
def stationValues : List (Nat × Nat × Nat × Nat) :=
  [(0, 1, 4, 16), (1, 2, 50, 500), (3, 1, 10, 200), (4, 1, 5, 100), (5, 1, 5, 100)]
    ++ (List.range 11).map (fun i => (6 + 2 * i, 2, 2500, 3700))
    ++ [(44, 2, 2500, 3700), (46, 2, 2500, 3700), (48, 2, 2500, 3700), (50, 2, 2500, 3700), (52, 2, 10, 1000), (54, 2, 10, 1000),
        (56, 2, 50, 2000), (58, 2, 10, 900), (60, 1, 0, 20)]

/-- R28, R94, R188: the settings `t` uses of the valid station section that the memory of `s` holds, with the section's flags. -/
structure State.StationLoaded (s t : State) : Prop where
  moduleCount : t.loader.cfg.moduleCount = clampedAt s.mem stationArea 0 1 4 16
  capacity : t.loader.cfg.capacity = clampedAt s.mem stationArea 1 2 50 500
  tolSum : t.loader.cfg.tolSum = clampedAt s.mem stationArea 3 1 10 200
  tolChk : t.loader.cfg.tolChk = clampedAt s.mem stationArea 4 1 5 100
  band : t.loader.cfg.band = clampedAt s.mem stationArea 5 1 5 100
  ocv : t.loader.cfg.ocv.length = 11
    ∧ t.loader.cfg.ocv.getD 0 0 = clampedAt s.mem stationArea 6 2 2500 3700
    ∧ ∀ i, i < 10 →
        t.loader.cfg.ocv.getD (i + 1) 0 = max (t.loader.cfg.ocv.getD i 0) (clampedAt s.mem stationArea (8 + 2 * i) 2 2500 3700)
  discharge : (orderedAt s.mem 28 →
        t.loader.cfg.disBreak = ⟨breakpointAt s.mem 28, breakpointAt s.mem 30, breakpointAt s.mem 32, breakpointAt s.mem 34⟩)
    ∧ (¬ orderedAt s.mem 28 → t.loader.cfg.disBreak = ⟨-200, 100, 450, 550⟩)
  charge : (orderedAt s.mem 36 →
        t.loader.cfg.chgBreak = ⟨breakpointAt s.mem 36, breakpointAt s.mem 38, breakpointAt s.mem 40, breakpointAt s.mem 42⟩)
    ∧ (¬ orderedAt s.mem 36 → t.loader.cfg.chgBreak = ⟨0, 150, 400, 500⟩)
  lowPair : (t.loader.cfg.vEmpty, t.loader.cfg.vLowTaper) =
    if clampedAt s.mem stationArea 44 2 2500 3700 < clampedAt s.mem stationArea 46 2 2500 3700 then
      (clampedAt s.mem stationArea 44 2 2500 3700, clampedAt s.mem stationArea 46 2 2500 3700)
    else (2800, 3000)
  highPair : (t.loader.cfg.vHighTaper, t.loader.cfg.vFull) =
    if clampedAt s.mem stationArea 48 2 2500 3700 < clampedAt s.mem stationArea 50 2 2500 3700 then
      (clampedAt s.mem stationArea 48 2 2500 3700, clampedAt s.mem stationArea 50 2 2500 3700)
    else (3450, 3600)
  iMaxDis : t.loader.cfg.iMaxDis = clampedAt s.mem stationArea 52 2 10 1000
  iMaxChg : t.loader.cfg.iMaxChg = clampedAt s.mem stationArea 54 2 10 1000
  rating : t.loader.cfg.rating = clampedAt s.mem stationArea 56 2 50 2000
  reconnectDelay : t.loader.cfg.reconnectDelay = clampedAt s.mem stationArea 58 2 10 900
  rideThrough : t.loader.cfg.rideThrough = clampedAt s.mem stationArea 60 1 0 20
  valid : t.loader.sections.station.valid = true ∧ t.loader.sections.station.defaulted = false
  clamped : t.loader.sections.station.clamped = true ↔
    (∃ v ∈ stationValues, outOfRange s.mem stationArea v.1 v.2.1 v.2.2.1 v.2.2.2)
      ∨ ∃ i, i < 8 ∧ (beInt (slice (areaBytes s.mem stationArea) (28 + 2 * i) 2) < -400
          ∨ 1250 < beInt (slice (areaBytes s.mem stationArea) (28 + 2 * i) 2))
  replaced : t.loader.sections.station.replaced = true ↔
    (∃ i, i < 10 ∧ clampedAt s.mem stationArea (8 + 2 * i) 2 2500 3700 < clampedAt s.mem stationArea (6 + 2 * i) 2 2500 3700)
      ∨ ¬ orderedAt s.mem 28 ∨ ¬ orderedAt s.mem 36
      ∨ clampedAt s.mem stationArea 46 2 2500 3700 ≤ clampedAt s.mem stationArea 44 2 2500 3700
      ∨ clampedAt s.mem stationArea 50 2 2500 3700 ≤ clampedAt s.mem stationArea 48 2 2500 3700

/-- R24, R187 to R189: the settings `t` uses of the other four sections that the memory of `s` holds, each section's defaults where its
check fails, with the sections' flags and the site digest. -/
structure State.SectionsLoaded (s t : State) : Prop where
  site : areaValid (areaBytes s.mem siteArea) = true →
    t.loader.cfg.siteId = beNat (slice (areaBytes s.mem siteArea) 0 2) ∧ t.loader.cfg.revision = beNat (slice (areaBytes s.mem siteArea) 2 2)
      ∧ t.loader.cfg.auxLimit = clampedAt s.mem siteArea 4 2 10 2000
      ∧ t.loader.sections.site.valid = true ∧ t.loader.sections.site.replaced = false ∧ t.loader.sections.site.defaulted = false
      ∧ (t.loader.sections.site.clamped = true ↔ outOfRange s.mem siteArea 4 2 10 2000)
  siteDefault : areaValid (areaBytes s.mem siteArea) = false →
    t.loader.cfg.siteId = 0 ∧ t.loader.cfg.revision = 0 ∧ t.loader.cfg.auxLimit = 120
      ∧ t.loader.sections.site = ⟨false, false, false, true⟩
  digest : t.loader.digest =
    if areaValid (areaBytes s.mem siteArea) = false then 0
    else if beNat (slice (areaBytes s.mem siteArea) 30 2) = 0 then 1
    else beNat (slice (areaBytes s.mem siteArea) 30 2)
  analog : areaValid (areaBytes s.mem analogArea) = true →
    t.loader.cfg.disTripCode = clampedAt s.mem analogArea 0 1 1 255 ∧ t.loader.cfg.chgTripCode = clampedAt s.mem analogArea 1 1 1 255
      ∧ t.loader.cfg.l1Set = clampedAt s.mem analogArea 2 2 10 900
      ∧ t.loader.cfg.l1Clear = min (clampedAt s.mem analogArea 4 2 10 900) (t.loader.cfg.l1Set - 1)
      ∧ t.loader.cfg.l2Set = clampedAt s.mem analogArea 6 2 10 900
      ∧ t.loader.cfg.l2Clear = min (clampedAt s.mem analogArea 8 2 10 900) (t.loader.cfg.l2Set - 1)
      ∧ t.loader.sections.analog.valid = true ∧ t.loader.sections.analog.defaulted = false
      ∧ (t.loader.sections.analog.clamped = true ↔
          outOfRange s.mem analogArea 0 1 1 255 ∨ outOfRange s.mem analogArea 1 1 1 255 ∨ outOfRange s.mem analogArea 2 2 10 900
            ∨ outOfRange s.mem analogArea 4 2 10 900 ∨ outOfRange s.mem analogArea 6 2 10 900 ∨ outOfRange s.mem analogArea 8 2 10 900)
      ∧ (t.loader.sections.analog.replaced = true ↔
          clampedAt s.mem analogArea 2 2 10 900 ≤ clampedAt s.mem analogArea 4 2 10 900
            ∨ clampedAt s.mem analogArea 6 2 10 900 ≤ clampedAt s.mem analogArea 8 2 10 900)
  analogDefault : areaValid (areaBytes s.mem analogArea) = false →
    t.loader.cfg.disTripCode = 80 ∧ t.loader.cfg.chgTripCode = 80 ∧ t.loader.cfg.l1Set = 50 ∧ t.loader.cfg.l1Clear = 40
      ∧ t.loader.cfg.l2Set = 200 ∧ t.loader.cfg.l2Clear = 160 ∧ t.loader.sections.analog = ⟨false, false, false, true⟩
  thermal : areaValid (areaBytes s.mem thermalArea) = true →
    t.loader.cfg.prescalerM = clampedAt s.mem thermalArea 0 1 1 31 ∧ t.loader.cfg.prescalerN = clampedAt s.mem thermalArea 1 1 0 7
      ∧ t.loader.sections.thermal.valid = true ∧ t.loader.sections.thermal.replaced = false
      ∧ t.loader.sections.thermal.defaulted = false
      ∧ (t.loader.sections.thermal.clamped = true ↔
          outOfRange s.mem thermalArea 0 1 1 31 ∨ outOfRange s.mem thermalArea 1 1 0 7)
  thermalDefault : areaValid (areaBytes s.mem thermalArea) = false →
    t.loader.cfg.prescalerM = 15 ∧ t.loader.cfg.prescalerN = 5 ∧ t.loader.sections.thermal = ⟨false, false, false, true⟩
  hazard : areaValid (areaBytes s.mem hazardArea) = true →
    t.loader.cfg.releaseTime = clampedAt s.mem hazardArea 0 1 10 60
      ∧ t.loader.sections.hazard.valid = true ∧ t.loader.sections.hazard.replaced = false ∧ t.loader.sections.hazard.defaulted = false
      ∧ (t.loader.sections.hazard.clamped = true ↔ outOfRange s.mem hazardArea 0 1 10 60)
  hazardDefault : areaValid (areaBytes s.mem hazardArea) = false →
    t.loader.cfg.releaseTime = 30 ∧ t.loader.sections.hazard = ⟨false, false, false, true⟩

/-! ## Frames of the line -/

/-- R121: `c` completes the frame `f`: every block runs, the receiver hears the line, and `c` is the last character of a frame whose start
and length it has found good. -/
structure State.CompletesFrame (s : State) (c : Byte) (f : Frame) : Prop where
  running : s.Running
  hears : s.line.tx ≠ .sending
  listens : s.loader.listenOnly = false
  receiving : s.line.rx = .receiving
  start : badStart (s.line.rxBuf ++ [c]) = false
  last : frameEnd (s.line.rxBuf ++ [c]) = some (s.line.rxBuf ++ [c]).length
  parsed : parseFrame (s.line.rxBuf ++ [c]) = f

/-- R119, R122: the frame `f` passes every test at `s`, with the content `m`: it is another station's, and addressed to this one, or to ALL
where its kind is. The peer table has its 30 entries. -/
structure State.Accepts (s : State) (f : Frame) (m : Message) : Prop where
  check : f.checkGood = true
  known : 1 ≤ f.kind ∧ f.kind ≤ 10
  content : decodeMessage f.kind f.payload = some m
  other : f.source ≠ s.loader.straps
  source : 1 ≤ f.source ∧ f.source ≤ 30
  table : s.peers.entries.length = 30
  addressed : (f.dest = s.loader.straps ∧ f.dest ≠ 31) ∨ (f.dest = 31 ∧ (f.kind ≤ 5 ∨ f.kind = 8))

/-! ## Records of the record server -/

/-- R193: the kind, instance and part lie in the ranges of its table. -/
def RecordReadable (kind inst part : Nat) : Prop :=
  ((kind = 1 ∨ kind = 5) ∧ inst = 0 ∧ part ≤ 1) ∨ (kind = 2 ∧ 1 ≤ inst ∧ inst ≤ 16 ∧ part ≤ 2)
    ∨ ((kind = 3 ∨ kind = 9) ∧ inst = 0 ∧ part = 0) ∨ (kind = 4 ∧ 1 ≤ inst ∧ inst ≤ 16 ∧ part ≤ 1)
    ∨ (kind = 6 ∧ inst = 0 ∧ part ≤ 4) ∨ (kind = 7 ∧ 1 ≤ inst ∧ inst ≤ 30 ∧ part ≤ 1) ∨ (kind = 8 ∧ inst = 0 ∧ part ≤ 6)

/-- The numbers in consecutive fields of the given lengths in bytes, each high byte first. -/
def fieldsOf : List Nat → List Byte → List Nat
  | [], _ => []
  | n :: rest, bytes => beNat (bytes.take n) :: fieldsOf rest (bytes.drop n)

/-- R194: the content is these fields and no more. A field is its length in bytes and its number, which the bytes hold modulo 256 to that
length: the number itself where it lies in the field's range. -/
def HoldsFields (content : List Byte) (fields : List (Nat × Nat)) : Prop :=
  content.length = sumOf (fields.map (·.1)) ∧ fieldsOf (fields.map (·.1)) content = fields.map fun f => f.2 % 256 ^ f.1

/-- A signed quantity of `n` bytes, in two's complement. -/
def signedField (n : Nat) (v : Int) : Nat × Nat := (n, (v % (256 ^ n : Nat)).toNat)

/-- A flag or an output: 1 where it is set or on, 0 where it is clear or off (log entry 14). -/
def flagField (b : Bool) : Nat × Nat := (1, if b then 1 else 0)

/-- All ones: an absent field, or a stopped timer. -/
def onesField (n : Nat) : Nat × Nat := (n, 256 ^ n - 1)

/-- A timer's elapsed time in units of `unit` ms. -/
def elapsedField (n unit : Nat) (t : Timer) : Nat × Nat :=
  match t with
  | some ms => (n, ms / unit)
  | none => onesField n

/-- An extreme cell of a summary: value, module, cell. -/
def cellFields (x : Option CellAt) : List (Nat × Nat) :=
  match x with
  | some x => [(2, x.mv), (1, x.n), (1, x.cell)]
  | none => [onesField 4]

/-- An extreme temperature of a summary: value, module, sensor. -/
def tempFields (x : Option TempAt) : List (Nat × Nat) :=
  match x with
  | some x => [signedField 2 x.value, (1, x.n), (1, x.sensor)]
  | none => [onesField 4]

/-- R17: STRING, part 0. -/
def stringFields (summary : Option Summary) (present : Bool) : List (Nat × Nat) :=
  (match summary with
    | some x =>
      [(2, x.round)] ++ cellFields x.vMin ++ cellFields x.vMax ++ tempFields x.tMin ++ tempFields x.tMax
        ++ [(3, x.stringV), (2, x.cellCount), (1, x.staleCount), flagField x.visibilityLost]
    | none => [onesField 25])
  ++ [flagField present]

/-- R17: STRING, part 1. -/
def maximaFields (summary : Option Summary) : List (Nat × Nat) :=
  match summary with
  | some x => x.maxima.map fun v => match v with | some v => signedField 2 v | none => onesField 2
  | none => [onesField 32]

/-- R5: MODULE, part 1. -/
def moduleFields (m : ModuleRecord) : List (Nat × Nat) :=
  [(3, m.total), (1, m.k), (2, m.checkReading)] ++ (m.temps.flatMap fun x => [signedField 2 x.value, flagField x.valid])
    ++ [(1, m.missCount), flagField m.stale, flagField m.hasData]

/-- R5, R16: MODULE, part 2. -/
def checkFields (m : ModuleRecord) : List (Nat × Nat) :=
  [(1, m.check.code)] ++ (m.channels.map fun x => (1, x.code))
    ++ [match m.subst with | some mv => (2, mv) | none => onesField 2, (1, m.disagree), (1, m.search), flagField m.readmit]
    ++ match m.errorHold with
      | some x => [(2, x.round), signedField 3 x.d, (1, x.k), (1, x.outcome.code)]
      | none => [onesField 7]

/-- R30, R33: CHARGE, part 0. -/
def chargeFields (c : ChargeState) (qFull : Nat) : List (Nat × Nat) :=
  [(4, c.q), (4, qFull), (2, c.soc), flagField c.uncertain, elapsedField 1 1000 c.fullTimer, flagField c.armed, (1, c.emptyCount),
    (1, c.lastKind.code), (4, c.lastUptime), (1, c.condition.code)]

/-- R43: BALANCE, part 0, of the position at index `i`. -/
def balanceFields (b : BalanceState) (i : Nat) : List (Nat × Nat) :=
  [(3, sumOf ((b.sets.getD i []).map fun v => 2 ^ (v - 1))), (1, (b.reasons.getD i .none).code), (1, b.result.code),
    match b.target with | some mv => (2, mv) | none => onesField 2]

/-- R64: THERMAL, part 0. -/
def thermalFields (t : ThermalState) : List (Nat × Nat) :=
  [(1, t.stage.code), (1, t.forced.code), (1, t.need.code), match t.wanted with | some x => (1, x.code) | none => onesField 1]
    ++ [flagField t.auxWait, (1, t.aux), (2, t.derate), flagField t.compressor, flagField t.feedback]
    ++ [elapsedField 1 1000 t.minOn, elapsedField 2 1000 t.minOff, elapsedField 1 1000 t.monitor, elapsedField 1 1000 t.retry]
    ++ [(1, t.pump.duty), (1, t.fan1.duty), (1, t.fan2.duty), flagField t.heater, flagField t.damper, flagField t.exhaust]
    ++ [flagField t.pump.failed, flagField t.fan1.failed, flagField t.fan2.failed, flagField t.compressorFailed]

/-- R93: HAZARD, part 0. -/
def hazardFields (h : HazardState) (gasA gasB : GasReading) : List (Nat × Nat) :=
  [(1, h.level.code), (2, indicationBits h.set), (1, h.firstCause.code), (1, h.smokeA.state.code), (1, h.smokeB.state.code)]
    ++ [flagField h.callPoint.taken, flagField h.door.taken, flagField h.hold.taken, flagField h.dischargedInput.taken]
    ++ [flagField h.release, (1, (h.countdown + 999) / 1000), flagField h.countsDown]
    ++ [flagField h.releaseFault, flagField h.writeFault, flagField h.neighbourAlarm]
    ++ [(2, gasA.reading), (2, gasA.ppm), (2, gasB.reading), (2, gasB.ppm)]
    ++ match h.image with
      | some i => [(1, lockoutLevelCode i.content.level), (1, i.content.cause.code), (4, i.content.uptime)]
      | none => [onesField 6]

/-- R148: PEER, part 0. -/
def peerFields (e : PeerEntry) : List (Nat × Nat) :=
  [(1, e.presence.code), (2, e.age), (2, e.frames), (1, e.kind.code), (1, e.digest.code)]
    ++ (match e.announced with
      | some a => [(2, a.digest), (1, a.moduleCount), (2, a.rating)]
      | none => [onesField 5])
    ++ [flagField e.status.isSome]
    ++ (match e.status with
      | some x => [(2, x.dis), (2, x.chg), (2, x.soc), (1, x.aux), (1, x.conn.code), signedField 2 x.setpoint, (1, x.flags.byte)]
      | none => [onesField 11])
    ++ [match e.level with | some l => (1, l.code) | none => onesField 1]
    ++ (match e.hazard with
      | some x => [(2, indicationBits x.set), (1, x.firstCause.code), (1, x.countdown)]
      | none => [onesField 4])
    ++ match e.dispatch with
      | some d => [signedField 4 d.setpoint, (2, d.ramp), (1, d.mode.code), (2, d.age)]
      | none => [onesField 9]

/-- R168, R185: CONNECTION, part 0. -/
def connectionFields (c : ConnState) : List (Nat × Nat) :=
  [(1, c.phase.code), (1, (if c.locks.failures then 1 else 0) + (if c.locks.hazard then 2 else 0) + (if c.locks.duplicate then 4 else 0))]
    ++ (match c.lastExit with
      | some x => [(1, x.cause.code), (1, x.left.code), (4, x.uptime)]
      | none => [onesField 6])
    ++ [flagField c.drives.mainNegative, flagField c.drives.precharge, flagField c.drives.mainPositive, flagField c.drives.enable]
    ++ [(1, c.failures), match c.threshold with | some mv => (3, mv) | none => onesField 3]
    ++ [flagField c.tripDischarge, flagField c.tripCharge]

/-- R185: CONNECTION, part 1. -/
def linkFields (c : ConnState) (reconnectDelay rideThrough : Nat) : List (Nat × Nat) :=
  [flagField (!c.linkUp), (1, c.misses), (1, c.seq), match c.lastFrame with | some f => signedField 2 f.2 | none => onesField 2]
    ++ (match c.lastAnswer with
      | some x =>
        [(1, x.answer.seqEcho), (1, gridCode x.answer.grid), (3, x.answer.dcLink), signedField 2 x.answer.power,
          flagField x.answer.ready, flagField x.answer.fault, (4, x.uptime)]
      | none => [onesField 13])
    ++ [elapsedField 3 1 c.gridTimer, elapsedField 2 1 c.stateTimer, elapsedField 2 1 c.visibilityTimer]
    ++ [(2, reconnectDelay), (1, rideThrough)]

/-- R187, R188: a section's check result and adjusted flags. -/
def adjustedFields (r : SectionReport) : List (Nat × Nat) :=
  [flagField r.valid, (1, (if r.clamped then 1 else 0) + (if r.replaced then 2 else 0) + (if r.defaulted then 4 else 0))]

/-- R193: CONFIG, part 0. -/
def configFields (l : LoaderState) : List (Nat × Nat) :=
  [(1, l.straps), flagField l.listenOnly, match l.startKind with | some k => (1, k.code) | none => onesField 1, flagField l.memoryFault]
    ++ adjustedFields l.sections.station ++ adjustedFields l.sections.site ++ adjustedFields l.sections.analog
    ++ adjustedFields l.sections.thermal ++ adjustedFields l.sections.hazard
    ++ [(2, l.digest), (2, l.answered), (2, l.dropped), (4, l.uptime)]

/-- R193, R194: the fields of some of the parts, with every record kind among them, in their order and at their lengths: STRING 0 and 1,
MODULE 0 to 2, CHARGE 0, BALANCE 0 and 1, THERMAL 0, HAZARD 0, PEER 0, CONNECTION 0 and 1, and CONFIG 0. The numbers of the states that the
chapters do not number, of flags and of unnumbered set members, and the order of the fields where two lists differ, are the model's choice
(log entry 14). -/
def State.recordFields (s : State) (kind inst part : Nat) : Option (List (Nat × Nat)) :=
  let m := s.scan.modules.getD (inst - 1) .reset
  match kind, part with
  | 1, 0 => some (stringFields s.scan.summary s.limit.summaryPresent)
  | 1, 1 => some (maximaFields s.scan.summary)
  | 2, 0 => some (m.cells.map fun mv => (2, mv))
  | 2, 1 => some (moduleFields m)
  | 2, 2 => some (checkFields m)
  | 3, 0 => some (chargeFields s.charge s.loader.cfg.qFull)
  | 4, 0 => some (balanceFields s.balance (inst - 1))
  | 4, 1 => some ((s.balance.seconds.getD (inst - 1) []).map fun x => (2, x))
  | 5, 0 => some (thermalFields s.thermal)
  | 6, 0 => some (hazardFields s.hazard s.analog.gasA s.analog.gasB)
  | 7, 0 => some (peerFields (s.peers.entries.getD (inst - 1) .reset))
  | 8, 0 => some (connectionFields s.conn)
  | 8, 1 => some (linkFields s.conn s.loader.cfg.reconnectDelay s.loader.cfg.rideThrough)
  | 9, 0 => some (configFields s.loader)
  | _, _ => none

/-! ## The level that a set gives -/

/-- R72: the level after the indication set becomes `set`: once the first evaluation has been made, a level below ALARM rises to the
highest whose condition holds. -/
def HazardState.levelAfter (h : HazardState) (set : List Indication) : HazardLevel :=
  if h.evaluated = true ∧ h.level.isAlarm = false ∧ h.level.code < (risingLevel set).code then risingLevel set else h.level

/-- R70: the kind of a member: GAS 1, SMOKE 2, HEAT 3, MANUAL 4, FAULT 5. -/
def kindOf (i : Indication) : Nat :=
  if i ∈ [.gasAL1, .gasAL2, .gasBL1, .gasBL2] then 1 else if i ∈ [.smokeA, .smokeB] then 2
  else if i ∈ [.heatHigh, .heatRise] then 3 else if i = .manual then 4 else 5

/-- R70, R71: the member takes part in the condition of the level: WATCH, PRE or ALARM. -/
def TakesPart (level : HazardLevel) (set : List Indication) (i : Indication) : Prop :=
  i ∈ set ∧ match level with
    | .watch => True
    | .preAlarm => ((i = .gasAL1 ∨ i = .gasBL1) ∧ .gasAL1 ∈ set ∧ .gasBL1 ∈ set) ∨ i ∈ [.gasAL2, .gasBL2, .heatHigh]
        ∨ ∃ j ∈ set, kindOf i ≠ kindOf j ∧ (kindOf i = 2 ∨ kindOf j = 2)
    | .alarm => (kindOf i = 2 ∧ .smokeA ∈ set ∧ .smokeB ∈ set) ∨ i = .manual
        ∨ ∃ j ∈ set, kindOf i ≠ kindOf j ∧ kindOf i ≠ 5 ∧ kindOf j ≠ 5
            ∧ (i ∈ [.smokeA, .smokeB, .gasAL2, .gasBL2] ∨ j ∈ [.smokeA, .smokeB, .gasAL2, .gasBL2])
    | _ => False

/-- R70: the cause of a change to the level by the set is the member of lowest value among those that entered and take part in its
condition. -/
def Completes (entered : Indication → Prop) (set : List Indication) (e : HistoryEntry) : Prop :=
  ∃ i, e.cause = .member i ∧ entered i ∧ TakesPart e.new set i ∧ ∀ j, entered j → TakesPart e.new set j → i.code ≤ j.code

/-! ## Share and clamp (R103 to R111) -/

/-- R103 to R109: what a share computation sets is the same in both. -/
def LimitState.SameShare (l l' : LimitState) : Prop :=
  l.direction = l'.direction ∧ l.participants = l'.participants ∧ l.ownWeight = l'.ownWeight ∧ l.siteWeight = l'.siteWeight
    ∧ l.basis = l'.basis ∧ l.target = l'.target ∧ l.ownRamp = l'.ownRamp

/-- R111: the immediate clamp from the state before to the new capabilities: a setpoint above the capability of its own direction becomes
that capability with its own sign, and the residue 0; any other is not changed. -/
def LimitState.Clamped (old new : LimitState) : Prop :=
  ((new.cDis : Int) < old.setpoint → new.setpoint = new.cDis ∧ new.residue = 0)
    ∧ (old.setpoint < -(new.cChg : Int) → new.setpoint = -(new.cChg : Int) ∧ new.residue = 0)
    ∧ (-(new.cChg : Int) ≤ old.setpoint → old.setpoint ≤ new.cDis → new.setpoint = old.setpoint ∧ new.residue = old.residue)

/-- R45 to R47, R49: a publication of the summary moves nothing of the ladder: a forced mode stands, a need is STARTING, the ladder gives the
stage held or a step that a timer of the compressor holds back, or it gives the stage that a need waits for already. -/
def State.LadderRests (s : State) (x : Summary) : Prop :=
  s.thermal.forced ≠ .none ∨ s.thermal.need = .starting
    ∨ ∀ lo hi, x.tMin = some lo → x.tMax = some hi →
        let want := ladder s.thermal.stage lo.value hi.value s.analog.inlet
        (s.thermal.need = .none ∧ (want = s.thermal.stage ∨ heldBack s.thermal want = true))
          ∨ (s.thermal.need ≠ .none ∧ s.thermal.wanted = some want)

/-! ## Changes of the hazard level (R72 to R74, R76, R77, R83, R87, R88) -/

/-- R72 to R74: once the first evaluation has been made, a level below ALARM is not below the one the set asks for; in PRE_ALARM the
escalation timer runs while the PRE condition holds and the fall-back timer while it does not; in WATCH the quiet timer runs while the set is
empty; and at any other level none of the three runs. -/
structure HazardState.LevelTimersFollow (h : HazardState) : Prop where
  risen : h.evaluated = true → h.level.isAlarm = false → (risingLevel h.set).code ≤ h.level.code
  escalation : h.escalation ≠ none ↔ h.level = .preAlarm ∧ preCondition h.set = true
  fallBack : h.fallBack ≠ none ↔ h.level = .preAlarm ∧ preCondition h.set = false
  quiet : h.quiet ≠ none ↔ h.level = .watch ∧ h.set = []

/-- Changes of level that follow one another, at one uptime. -/
def LevelChain (now : Nat) : HazardLevel → List HistoryEntry → HazardLevel → Prop
  | old, [], new => new = old
  | old, e :: rest, new => e.old = old ∧ e.new ≠ old ∧ e.uptime = now ∧ LevelChain now e.new rest new

/-- R88: the history after some changes: at most 16 entries, the oldest removed as a new one is appended. -/
def historyAfter (history entries : List HistoryEntry) : List HistoryEntry :=
  entries.foldl (fun h e => (if h.length < 16 then h else h.tail) ++ [e]) history

/-- R76: the episode first cause after some changes: set on leaving CLEAR, NONE on reaching it, and kept between. -/
def episodeAfter (cause : Cause) (entries : List HistoryEntry) : Cause :=
  entries.foldl (fun c e => if e.new = .clear then .none else if e.old = .clear then e.cause else c) cause

/-- R87: the first-cause record of a level after some changes: an entry into the level latches an empty record with the set, the cause of the
entry, the latest summary's T_max and the uptime; a latched one stays. `set`: where it is known. -/
structure FirstCauseLatched (level : HazardLevel) (old new : Option FirstCause) (entries : List HistoryEntry)
    (set : Option (List Indication)) (tMax : Option TempAt) (now : Nat) : Prop where
  kept : old ≠ none ∨ (∀ e ∈ entries, e.new ≠ level) → new = old
  latched : ∀ e ∈ entries, e.new = level → old = none →
    ∃ r, new = some r ∧ r.trigger = e.cause ∧ r.tMax = tMax ∧ r.uptime = now ∧ ∀ x, set = some x → r.set = x

/-- R73, R74: the level's timers after some changes: an entry starts its own from 0; without a change of level one that runs on keeps its
time, and one that starts does so from 0. -/
structure HazardState.TimersAfter (old new : HazardState) (entries : List HistoryEntry) : Prop where
  entered : entries ≠ [] →
    new.escalation = (if new.level = .preAlarm then some 0 else none) ∧ new.fallBack = none
      ∧ new.quiet = (if new.level = .watch ∧ new.set = [] then some 0 else none)
  pre : entries = [] → new.level = .preAlarm →
    (preCondition new.set = true → new.fallBack = none ∧ new.escalation = (if old.escalation = none then some 0 else old.escalation))
      ∧ (preCondition new.set = false → new.escalation = none ∧ new.fallBack = (if old.fallBack = none then some 0 else old.fallBack))
  watch : entries = [] → new.level = .watch →
    new.quiet = if new.set = [] then (if old.quiet = none then some 0 else old.quiet) else none

/-- What the changes of level of one command leave, the oldest first: the episode first cause and the history (R76, R88), the countdown,
RELEASE and the confirmation timer (R78 to R80), the HAZARD frame of the last of them in the urgent slot, or behind the one being sent
there (R77, R129), and the lockout write of an entry into ALARM, RELEASING or DISCHARGED (R83, R84). Without a change nothing of these
happens. `set`: the indication set at the changes, where it is known. -/
structure State.LevelMoved (s t : State) (entries : List HistoryEntry) (set : Option (List Indication)) : Prop where
  chain : LevelChain s.loader.uptime s.hazard.level entries t.hazard.level
  history : t.hazard.history = historyAfter s.hazard.history entries
  episode : t.hazard.firstCause = episodeAfter s.hazard.firstCause entries
  outputs : entries ≠ [] → t.hazard.countdown = s.loader.cfg.releaseTime * 1000
    ∧ t.hazard.release = decide (t.hazard.level = .releasing)
    ∧ t.hazard.confirm = if t.hazard.level = .releasing then some 0 else none
  frame : entries ≠ [] → ∃ x,
    (if s.line.tx = .sending ∧ s.line.inHand = some .urgent then t.line.urgentNext else t.line.urgent)
        = some ⟨t.hazard.level, x, t.hazard.firstCause, if t.hazard.level = .alarm then s.loader.cfg.releaseTime else 0⟩
      ∧ ∀ y, set = some y → x = y
  write : entries ≠ [] → t.hazard.level = .alarm ∨ t.hazard.level = .releasing ∨ t.hazard.level = .discharged →
    t.loader.writeStore = some ⟨some t.hazard.level, t.hazard.firstCause, s.loader.uptime⟩
      ∧ t.hazard.retry = none ∧ t.hazard.retryContent = none

/-- R70, R72: a detector's report changes no level, or raises it once, with the member that completed the condition as the cause. -/
def State.DetectorRaises (s t : State) (entries : List HistoryEntry) : Prop :=
  entries = [] ∨ ∃ e, entries = [e] ∧ Completes (fun i => i ∈ t.hazard.set ∧ i ∉ s.hazard.set) t.hazard.set e

end Sys2Proof.Machine

namespace Sys2Proof

open Machine

/-- The changes of hazard level that each command can bring about, with their causes (R70, R72 to R74, R79 to R81, R86, R90). A report of one
detector changes the set once. The first evaluation takes every member as entering, and the DISCHARGED input after them (log entry 24). A
comparator of a loop's supervision that clears brings three reports (R24, log entry 8). Every other command changes no level. -/
def Instr.ChangesLevel (s t : State) (entries : List HistoryEntry) : Instr → Prop
  | .moduleReport _ | .answerWindowExpiry _ | .gasLevelComparator .. | .smokeLoopPersistenceExpiry _ | .heatRiseSample
  | .contactInputSettled .callPoint => s.DetectorRaises t entries
  | .loopFaultComparator loop _ =>
    if (s.analog.comparators loop).fault = false then s.DetectorRaises t entries
    else entries.length ≤ 2 ∧ ∀ e ∈ entries, ∃ g, e.cause = .member (gasMember loop g)
      ∧ gasMember loop g ∈ t.hazard.set ∧ gasMember loop g ∉ s.hazard.set
  | .contactInputSettled .discharged =>
    entries = [] ∨ ∃ e, entries = [e] ∧ e.new = .discharged ∧ e.cause = .panelDischarged
  | .hazardFirstEvaluation => ∃ up down, entries = up ++ down
      ∧ (up = [] ∨ ∃ e, up = [e] ∧ Completes (fun i => i ∈ t.hazard.set) t.hazard.set e)
      ∧ (down = [] ∨ ∃ e, down = [e] ∧ e.new = .discharged ∧ e.cause = .panelDischarged)
  | .escalationTimerExpiry => entries = [] ∨ ∃ e, entries = [e] ∧ e.new = .alarm ∧ e.cause = .escalation
  | .fallBackTimerExpiry => entries = [] ∨ ∃ e, entries = [e] ∧ e.new = .watch ∧ e.cause = .fallBack
  | .quietTimerExpiry => entries = [] ∨ ∃ e, entries = [e] ∧ e.new = .clear ∧ e.cause = .fallBack
  | .countdownEnd => entries = [] ∨ ∃ e rest, entries = e :: rest ∧ e.new = .releasing ∧ e.cause = .countdownEnd
      ∧ (rest = [] ∨ ∃ e', rest = [e'] ∧ e'.new = .discharged ∧ e'.cause = .panelDischarged)
  | .maintenanceClear | .contactInputSettled .keySwitch =>
    entries = [] ∨ ∃ e rest, entries = e :: rest ∧ e.new = .clear ∧ e.cause = .maintClear
      ∧ (rest = [] ∨ ∃ e', rest = [e'] ∧ e'.new = .watch ∧ Completes (fun i => i ∈ t.hazard.set) t.hazard.set e')
  | _ => entries = []

/-- The command brings at most one change of the indication set: every command but a supervision comparator's that clears (R24). -/
def Instr.reportsOnce (s : State) : Instr → Bool
  | .loopFaultComparator loop _ => !(s.analog.comparators loop).fault
  | _ => true

/-- The command is the key's turn (R195): either row that brings it about (log entry 19). -/
def Instr.turnsKey : Instr → Bool
  | .maintenanceClear => true
  | .contactInputSettled .keySwitch => true
  | _ => false

end Sys2Proof
end

