-- ==== Sys2Proof/Certificates/Slice0/Obligations.lean ====
section
/-! DEFINITION. The statements for the provers. Frames are written `t = { s with <the parts that change> }`: every part not named is
unchanged. The lamps and the counter of free values follow every command and are left open there; `LampsFollow` states the lamps. -/

open Sys2Proof Sys2Proof.Machine

/-! ## Steps and the queue -/

/-- A step takes the command at the front of the queue and runs it with the queue's rest. -/
def Obligations.StepRunsFrontCommand : Prop :=
  ∀ (c : Instr) (rest : List Instr) (s : State), s.pending = c :: rest → step s = exec c { s with pending := rest }

/-- On an empty queue a millisecond passes (the model's choice, log entry 2): nothing of the state changes but the timers, the release
countdown and the idle count. Every timer that runs rises by 1 ms up to the time at which it expires, a timer that does not run stays
stopped, the idle count rises by the 125 bit-times of a millisecond once the line interface has started and while the line is not
taken (R116, R135), and the countdown falls exactly while the level is ALARM with HOLD inactive and the door closed (R78). -/
def Obligations.IdleMillisecond : Prop :=
  ∀ s : State, s.pending = [] →
    let up (limit : Nat) (a b : Timer) : Prop := (a = none → b = none) ∧ ∀ ms, a = some ms → b = some (min limit (ms + 1))
    ∃ t, step s = .next t
      ∧ t = { s with
          loader := { s.loader with second := t.loader.second, writeTimer := t.loader.writeTimer }
          scan := { s.scan with timer := t.scan.timer, answers := t.scan.answers }
          analog := { s.analog with
            currentTimer := t.analog.currentTimer, gasTimer := t.analog.gasTimer, temperatureTimer := t.analog.temperatureTimer }
          charge := { s.charge with fullTimer := t.charge.fullTimer }
          balance := { s.balance with evalTimer := t.balance.evalTimer }
          thermal := { s.thermal with
            tachTimer := t.thermal.tachTimer, minOn := t.thermal.minOn, minOff := t.thermal.minOff, monitor := t.thermal.monitor
            retry := t.thermal.retry }
          hazard := { s.hazard with
            smokeA := { s.hazard.smokeA with timer := t.hazard.smokeA.timer }
            smokeB := { s.hazard.smokeB with timer := t.hazard.smokeB.timer }
            callPoint := { s.hazard.callPoint with timer := t.hazard.callPoint.timer }
            door := { s.hazard.door with timer := t.hazard.door.timer }
            hold := { s.hazard.hold with timer := t.hazard.hold.timer }
            dischargedInput := { s.hazard.dischargedInput with timer := t.hazard.dischargedInput.timer }
            countdown := t.hazard.countdown, confirm := t.hazard.confirm, escalation := t.hazard.escalation
            fallBack := t.hazard.fallBack, quiet := t.hazard.quiet, firstEval := t.hazard.firstEval
            sampleTimer := t.hazard.sampleTimer, retry := t.hazard.retry }
          limit := { s.limit with period := t.limit.period }
          line := { s.line with idle := t.line.idle, window := t.line.window }
          peers := { s.peers with
            dispatch := { s.peers.dispatch with staleness := t.peers.dispatch.staleness }
            ageing := t.peers.ageing, listening := t.peers.listening, learning := t.peers.learning, status := t.peers.status }
          permit := { s.permit with ask := t.permit.ask, hold := t.permit.hold, backoff := t.permit.backoff }
          conn := { s.conn with
            gridTimer := t.conn.gridTimer, stateTimer := t.conn.stateTimer, visibilityTimer := t.conn.visibilityTimer }
          key := { s.key with timer := t.key.timer } }
      ∧ up 1000 s.loader.second t.loader.second ∧ up 10 s.loader.writeTimer t.loader.writeTimer
      ∧ up 250 s.scan.timer t.scan.timer
      ∧ (t.scan.answers.length = s.scan.answers.length
          ∧ ∀ (i : Nat) (a b : Timer), s.scan.answers[i]? = some a → t.scan.answers[i]? = some b → up 20 a b)
      ∧ up 10 s.analog.currentTimer t.analog.currentTimer ∧ up 100 s.analog.gasTimer t.analog.gasTimer
      ∧ up 1000 s.analog.temperatureTimer t.analog.temperatureTimer
      ∧ up 30000 s.charge.fullTimer t.charge.fullTimer ∧ up 60000 s.balance.evalTimer t.balance.evalTimer
      ∧ up 1000 s.thermal.tachTimer t.thermal.tachTimer ∧ up 180000 s.thermal.minOn t.thermal.minOn
      ∧ up 300000 s.thermal.minOff t.thermal.minOff ∧ up 10000 s.thermal.monitor t.thermal.monitor
      ∧ up 10000 s.thermal.retry t.thermal.retry
      ∧ up 1000 s.hazard.smokeA.timer t.hazard.smokeA.timer ∧ up 1000 s.hazard.smokeB.timer t.hazard.smokeB.timer
      ∧ up 100 s.hazard.callPoint.timer t.hazard.callPoint.timer ∧ up 100 s.hazard.door.timer t.hazard.door.timer
      ∧ up 100 s.hazard.hold.timer t.hazard.hold.timer
      ∧ up 100 s.hazard.dischargedInput.timer t.hazard.dischargedInput.timer ∧ up 100 s.key.timer t.key.timer
      ∧ up 10000 s.hazard.confirm t.hazard.confirm ∧ up 300000 s.hazard.escalation t.hazard.escalation
      ∧ up 60000 s.hazard.fallBack t.hazard.fallBack ∧ up 60000 s.hazard.quiet t.hazard.quiet
      ∧ up 2000 s.hazard.firstEval t.hazard.firstEval ∧ up 5000 s.hazard.sampleTimer t.hazard.sampleTimer
      ∧ up 1000 s.hazard.retry t.hazard.retry
      ∧ t.hazard.countdown =
          (if s.hazard.level = .alarm ∧ s.hazard.hold.taken = false ∧ s.hazard.door.taken = false then s.hazard.countdown - 1
           else s.hazard.countdown)
      ∧ up 100 s.limit.period t.limit.period
      ∧ t.line.idle = (if s.loader.phase = .running ∧ s.line.taken = false then s.line.idle + 125 else s.line.idle) ∧ up 10000 s.line.window t.line.window
      ∧ up 10000 s.peers.dispatch.staleness t.peers.dispatch.staleness ∧ up 100 s.peers.ageing t.peers.ageing
      ∧ up 1000 s.peers.listening t.peers.listening ∧ up 3000 s.peers.learning t.peers.learning
      ∧ up 1000 s.peers.status t.peers.status
      ∧ up 30000 s.permit.ask t.permit.ask ∧ up 20000 s.permit.hold t.permit.hold
      ∧ up (2000 + 100 * s.loader.straps) s.permit.backoff t.permit.backoff
      ∧ up (s.loader.cfg.reconnectDelay * 1000) s.conn.gridTimer t.conn.gridTimer
      ∧ up 5000 s.conn.visibilityTimer t.conn.visibilityTimer
      ∧ (s.conn.phase = .precharging → up 5000 s.conn.stateTimer t.conn.stateTimer)
      ∧ (s.conn.phase = .dcClosed ∨ s.conn.phase = .disconnecting → up 2000 s.conn.stateTimer t.conn.stateTimer)
      ∧ (s.conn.phase = .rideThrough → up (s.loader.cfg.rideThrough * 1000) s.conn.stateTimer t.conn.stateTimer)
      ∧ (s.conn.phase = .tripped → up 60000 s.conn.stateTimer t.conn.stateTimer)

/-! ## Invariants -/

/-- Every step keeps the canonical form of the configuration memory, and changes no byte of it outside the two lockout slots, 1024 to
1055 (R186). -/
def Obligations.OnlyLockoutAreaWritten : Prop :=
  ∀ s t : State, s.MemoryCanonical → step s = .next t →
    t.MemoryCanonical ∧ ∀ a, a < 1024 ∨ 1056 ≤ a → Memory.read t.mem a = Memory.read s.mem a

/-- Every step keeps the four drive outputs at those of the connection state (R169), and RELEASE driven exactly while the level is
RELEASING (R79, R80). -/
def Obligations.OutputsFollowState : Prop :=
  (∀ s t : State, s.DrivesFollow → step s = .next t → t.DrivesFollow)
    ∧ ∀ s t : State, s.ReleaseFollows → step s = .next t → t.ReleaseFollows

/-- R182: at ALARM or above every contactor drive is open and the converter enable is off. Every step keeps the invariant that gives
it. -/
def Obligations.AlarmOpensEverything : Prop :=
  (∀ s t : State, s.AlarmLocks → step s = .next t → t.AlarmLocks)
    ∧ ∀ s : State, s.AlarmLocks → s.DrivesFollow → s.hazard.level.isAlarm = true → s.DrivesOpen

/-- R37, R40: every step keeps every bleed set held by the balancing unit empty while the hazard level is PRE_ALARM or above. (R1, R43: a
request already sent, or a round that carries the sets fixed at its start, may still bleed a module's cells until its next request.) -/
def Obligations.HazardEmptiesBleedSets : Prop :=
  ∀ s t : State, s.HazardStopsBleeding → step s = .next t → t.HazardStopsBleeding

/-- Every step keeps the setpoint at 0 in every connection state but CONNECTED (R112), and within the capability of its own direction
(R111). -/
def Obligations.SetpointBounded : Prop :=
  (∀ s t : State, s.SetpointRests → step s = .next t → t.SetpointRests)
    ∧ ∀ s t : State, s.SetpointWithin → step s = .next t → t.SetpointWithin

/-- R58, R100, R101: the capabilities are 0 at PRE_ALARM or above and while VISIBILITY_LOST is set, and never above the converter rating.
Every step keeps the derates at what the thermal unit, the hazard unit and the scan unit report, and the capabilities at what the
derates give. R18: and VISIBILITY_LOST at what the check states of the modules give. -/
def Obligations.CapabilityZeroInDanger : Prop :=
  (∀ s t : State, s.VisibilityFollows → step s = .next t → t.VisibilityFollows)
    ∧ (∀ s t : State, s.DeratesFollow → step s = .next t → t.DeratesFollow)
    ∧ (∀ s t : State, s.CapabilityFollows → step s = .next t → t.CapabilityFollows)
    ∧ ∀ s : State, s.CapabilityFollows →
        s.limit.cDis ≤ s.loader.cfg.rating ∧ s.limit.cChg ≤ s.loader.cfg.rating
          ∧ (s.DeratesFollow → s.hazard.level.isPre = true ∨ s.scan.visibilityLost = true → s.limit.cDis = 0 ∧ s.limit.cChg = 0)

/-- The state right after reset meets every invariant stated above and below. -/
def Obligations.ResetMeetsInvariants : Prop :=
  State.reset.MemoryCanonical ∧ State.reset.DrivesFollow ∧ State.reset.AlarmLocks ∧ State.reset.ReleaseFollows
    ∧ State.reset.HazardStopsBleeding ∧ State.reset.SetpointRests ∧ State.reset.SetpointWithin ∧ State.reset.DeratesFollow
    ∧ State.reset.CapabilityFollows ∧ State.reset.LatchedTimersStopped ∧ State.reset.LampsLit ∧ State.reset.ThermalFollows
    ∧ State.reset.HandFollows ∧ State.reset.hazard.LevelTimersFollow ∧ State.reset.VisibilityFollows

/-! ## Rules over all commands -/

/-- R190: what the loader fixed at the start stays until the next reset: no command but those of the start changes it. -/
def Obligations.ConfigurationFixed : Prop :=
  ∀ (c : Instr) (s t : State), c.starts = false → exec c s = .next t →
    t.loader.phase = s.loader.phase ∧ t.loader.straps = s.loader.straps ∧ t.loader.listenOnly = s.loader.listenOnly
      ∧ t.loader.startKind = s.loader.startKind ∧ t.loader.memoryFault = s.loader.memoryFault
      ∧ t.loader.sections = s.loader.sections ∧ t.loader.digest = s.loader.digest ∧ t.loader.cfg = s.loader.cfg

/-- R75: a latched level stays latched except at maintenance clear (by either of the two rows that name it) and at a reset; and only
the countdown's end, the DISCHARGED input, the first evaluation, maintenance clear and a start move it at all. Every command keeps
the premise that no timer of R73 or R74 runs at a latched level. R72 to R74: every command keeps, too, that the level is not below the one
its set asks for and that the escalation, the fall-back and the quiet timer run exactly where their rules say. -/
def Obligations.LatchedLevelHeld : Prop :=
  (∀ (c : Instr) (s t : State), s.hazard.LevelTimersFollow → exec c s = .next t → t.hazard.LevelTimersFollow)
  ∧ ∀ (c : Instr) (s t : State), s.LatchedTimersStopped → exec c s = .next t →
    t.LatchedTimersStopped ∧ (s.hazard.level.isAlarm = true →
    (t.hazard.level.isAlarm = true ∨ c.resets = true ∨ c = .maintenanceClear ∨ c = .contactInputSettled .keySwitch)
      ∧ (t.hazard.level = s.hazard.level ∨ c.starts = true ∨ c = .maintenanceClear ∨ c = .contactInputSettled .keySwitch
          ∨ c = .countdownEnd ∨ c = .contactInputSettled .discharged ∨ c = .hazardFirstEvaluation))

/-- R134: DUPLICATE, once set, stays until a reset, and while it is set the PERMIT, REPLY and ROUTINE stores stay empty. -/
def Obligations.DuplicateHeld : Prop :=
  ∀ (c : Instr) (s t : State), s.line.duplicate = true → exec c s = .next t → c.resets = false →
    t.line.duplicate = true
      ∧ (s.line.permits = [] ∧ s.line.replies = [] ∧ s.line.routine = [] ∧ s.line.statusAgain = false →
          t.line.permits = [] ∧ t.line.replies = [] ∧ t.line.routine = [] ∧ t.line.statusAgain = false)

/-- R196: after every command each lamp is driven as the part's condition asks, the leftmost column of the rule's table that holds. R196:
every step keeps a steadily lit lamp lit and a lamp that is off dark; and the end of a lamp's half period turns a flashing lamp's output
over and changes nothing else. -/
def Obligations.Lamps : Prop :=
  (∀ (c : Instr) (s t : State), exec c s = .next t →
    let fault : Prop := t.scan.visibilityLost = true ∨ t.thermal.pump.failed = true ∨ t.thermal.fan1.failed = true
      ∨ t.thermal.fan2.failed = true ∨ t.thermal.compressorFailed = true ∨ t.hazard.releaseFault = true
      ∨ t.hazard.writeFault = true ∨ t.loader.memoryFault = true ∨ t.conn.locks.failures = true
    (t.lamps.run.mode = .steady ↔ t.Running ∧ t.conn.phase = .connected)
      ∧ (t.lamps.run.mode = .flash1 ↔ t.Running ∧ t.conn.phase ≠ .connected ∧ t.peers.service = .inService)
      ∧ (t.lamps.run.mode = .flash4 ↔ t.Running ∧ t.conn.phase ≠ .connected ∧ t.peers.service ≠ .inService
          ∧ (t.loader.listenOnly = true ∨ t.loader.startKind = some .unconfigured ∨ t.line.duplicate = true))
      ∧ (t.lamps.alert.mode = .steady ↔ t.Running ∧ t.hazard.level.isAlarm = true)
      ∧ (t.lamps.alert.mode = .flash1 ↔ t.Running ∧ (t.hazard.level = .watch ∨ t.hazard.level = .preAlarm))
      ∧ (t.lamps.alert.mode = .flash4 ↔ t.Running ∧ t.hazard.level = .clear ∧ t.hazard.neighbourAlarm = true)
      ∧ (t.lamps.fault.mode = .steady ↔ t.Running ∧ fault)
      ∧ (t.lamps.fault.mode = .flash1 ↔ t.Running ∧ ¬ fault ∧ (t.line.degraded = true ∨ t.peers.siteMismatch = true))
      ∧ t.lamps.fault.mode ≠ .flash4
      ∧ (¬ t.Running → t.lamps.run.mode = .off ∧ t.lamps.alert.mode = .off ∧ t.lamps.fault.mode = .off))
  ∧ (∀ s t : State, s.LampsLit → step s = .next t → t.LampsLit)
    ∧ ∀ s : State, lampsSettled (Work.start s) = true →
        (s.lamps.run.mode = .flash1 ∨ s.lamps.run.mode = .flash4 →
          exec (.lampFlashTick .run) s = .next { s with lamps := { s.lamps with run := ⟨s.lamps.run.mode, !s.lamps.run.lit⟩ } })
        ∧ (s.lamps.alert.mode = .flash1 ∨ s.lamps.alert.mode = .flash4 →
          exec (.lampFlashTick .alert) s = .next { s with lamps := { s.lamps with alert := ⟨s.lamps.alert.mode, !s.lamps.alert.lit⟩ } })
        ∧ (s.lamps.fault.mode = .flash1 ∨ s.lamps.fault.mode = .flash4 →
          exec (.lampFlashTick .fault) s = .next { s with lamps := { s.lamps with fault := ⟨s.lamps.fault.mode, !s.lamps.fault.lit⟩ } })

/-! ## Resets and the start -/

/-- Power-on and the reset input put every block at its reset values; the memory is unchanged where no lockout write was in progress
(R5, R27, R35, R44, R92, R95, R136, R149, R168, R190), and the contactor drives and the enable that were closed or on open in the order
of R169. Where the spec gives no value, those are the model's choice (log entry 4): the strap reading that stands while the reset input is
held, the digest 0, the built-in settings and release time and the sections without results before the loader has finished, the
terminals as they stand, the tach marks and the counts of a window, and the timers that the rules start later stopped. R186, R192: the
release of the reset input reads the straps and starts the uptime from 0; the uptime then rises by one each second, saturating at
4294967295, and stands while the reset input is held. -/
def Obligations.ResetsAndUptime : Prop :=
  (∀ s : State,
    (∀ straps, ∃ t, exec (.powerOn straps) s = .next t ∧ s.AtReset t (.reset .loading straps.toNat)
      ∧ (s.loader.writing = none → t.mem = s.mem))
    ∧ ∃ t, exec .resetInput s = .next t ∧ s.AtReset t (.reset .held s.loader.straps)
      ∧ (s.loader.writing = none → t.mem = s.mem))
  ∧ ∀ s : State,
    (∀ straps, ¬ s.Running →
      ∃ l n, exec (.resetRelease straps) s = .next { s with loader := .reset .loading straps.toNat, lamps := l, freeCount := n })
    ∧ (s.loader.phase ≠ .held →
      ∃ l n, exec .uptimeSecond s = .next { s with
        loader := { s.loader with uptime := min 4294967295 (s.loader.uptime + 1), second := some 0 }, lamps := l, freeCount := n })
    ∧ (s.loader.phase = .held → ∃ l n, exec .uptimeSecond s = .next { s with lamps := l, freeCount := n })

/-- R85: a lockout write cut short by a reset leaves its slot failing the check, and every other byte as it was. What the slot's bytes
are is free (log entry 11). -/
def Obligations.ResetTearsLockoutWrite : Prop :=
  ∀ (c : Instr) (s t : State) (x : SlotWrite), c.resets = true → s.MemoryCanonical → s.loader.writing = some x →
    exec c s = .next t →
      decodeSlot x.second (slotOf t.mem x.second) = none
        ∧ ∀ a, a < slotAddress x.second ∨ slotAddress x.second + 16 ≤ a → Memory.read t.mem a = Memory.read s.mem a

/-- R187, R190: the loader's finish starts every block with what the memory holds, or, when the memory does not answer or the station
section fails its check, UNCONFIGURED with the built-in defaults and digest 0. R24, R94, R188, R189: in a CONFIGURED start every setting
is the value of its valid section, clamped to its range and then replaced where several values disagree, or its default; the sections
show their checks and adjusted flags, and the digest is the site section's. R85: when the lockout area holds a record at the start,
the level becomes LOCKOUT with the record's first cause, no write is requested, and a CONFIGURED connection unit is LOCKED; without a
record the level is left as it was. R135: the line interface starts in its receiver state, DISCARD after a reset, with the idle count at
0, and the first error window starts, in the listen-only start too. -/
def Obligations.LoaderFinish : Prop :=
  (∀ (acknowledges : Bool) (s : State), s.loader.phase = .loading →
    ∃ t, exec (.loaderFinish acknowledges) s = .next t ∧ t.Running ∧ t.loader.memoryFault = !acknowledges
      ∧ t.mem = s.mem ∧ t.charge = s.charge ∧ t.key = s.key
      ∧ t.scan = { s.scan with timer := if t.loader.startKind = some .configured then some 250 else none }
      ∧ t.analog = { s.analog with currentTimer := some 0, gasTimer := some 0, temperatureTimer := some 0 }
      ∧ t.loader.straps = s.loader.straps ∧ t.loader.uptime = s.loader.uptime
      ∧ t.hazard.firstEval = some 0 ∧ t.hazard.sampleTimer = some 0 ∧ t.limit.period = some 0 ∧ t.peers.ageing = some 0
      ∧ t.line.idle = 0 ∧ t.line.rx = s.line.rx ∧ t.line.window = some 0
      ∧ (acknowledges = false ∨ areaValid (areaBytes s.mem stationArea) = false →
          t.loader.startKind = some .unconfigured ∧ t.loader.cfg = .defaults ∧ t.loader.digest = 0
            ∧ t.loader.sections.station = ⟨false, false, false, true⟩
            ∧ ∀ r ∈ [(siteArea, t.loader.sections.site), (analogArea, t.loader.sections.analog),
                (thermalArea, t.loader.sections.thermal), (hazardArea, t.loader.sections.hazard)],
                r.2 = ⟨acknowledges && areaValid (areaBytes s.mem r.1), false, false, false⟩)
      ∧ (acknowledges = true → areaValid (areaBytes s.mem stationArea) = true →
          t.loader.startKind = some .configured ∧ s.StationLoaded t ∧ s.SectionsLoaded t))
  ∧ ∀ (acknowledges : Bool) (s t : State), s.loader.phase = .loading → exec (.loaderFinish acknowledges) s = .next t →
    t.hazard.image = imageOf (portView acknowledges s.mem)
      ∧ t.loader.writeStore = s.loader.writeStore
      ∧ (∀ i, imageOf (portView acknowledges s.mem) = some i → i.content.level ≠ none →
          t.hazard.level = .lockout ∧ t.hazard.firstCause = i.content.cause
            ∧ (t.Configured → t.conn.phase = .locked ∧ t.conn.locks.hazard = true))
      ∧ ((∀ i, imageOf (portView acknowledges s.mem) = some i → i.content.level = none) →
          t.hazard.level = s.hazard.level ∧ t.hazard.history = s.hazard.history ∧ t.conn = s.conn)

/-! ## The module scan -/

/-- R1, R36: a round start raises the round number, fixes the bleed sets the round carries (none in a quiet round) and puts the request
of module 1 on the chain; each request that has been sent opens its module's window and puts the next request there. -/
def Obligations.RoundAndRequests : Prop :=
  ∀ s : State,
    (s.Configured → s.scan.round = none →
      ∃ l n, exec .scanRoundStart s = .next { s with
        scan := { s.scan with
          timer := some 0
          roundNumber := (s.scan.roundNumber + 1) % 65536
          round := some ⟨decide (s.balance.nextPhase = 0), if s.balance.nextPhase = 0 then List.replicate 16 [] else s.balance.sets,
            List.replicate s.loader.cfg.moduleCount .notSent⟩
          request := some ⟨1, (s.scan.roundNumber + 1) % 65536, (s.scan.modules.getD 0 .reset).k,
            (if s.balance.nextPhase = 0 then List.replicate 16 [] else s.balance.sets).getD 0 []⟩ }
        balance := { s.balance with phase := if s.balance.active then (s.balance.phase + 1) % 4 else 0 }
        lamps := l, freeCount := n })
    ∧ ∀ r q, s.scan.round = some r → s.scan.request = some q →
      ∃ l n, exec .moduleRequestSent s = .next { s with
        scan := { s.scan with
          answers := changeAt (fun _ => some 0) (q.n - 1) s.scan.answers
          round := some { r with windows := changeAt (fun _ => .opened) (q.n - 1) r.windows }
          request :=
            if q.n < s.loader.cfg.moduleCount then
              some ⟨q.n + 1, s.scan.roundNumber, (s.scan.modules.getD q.n .reset).k, r.carried.getD q.n []⟩
            else none }
        lamps := l, freeCount := n }

/-- R2: a report is accepted exactly when its check is good, it answers a module whose window is open in the round in flight with that
module's round and check index, and every reading lies within the report table; a report that is not accepted changes nothing, and
one that is replaces the readings held and ends the run of misses. -/
def Obligations.ReportTaken : Prop :=
  ∀ (r : ModuleReport) (s : State),
    ((∃ round, s.scan.round = some round ∧ round.windows.getD (r.n - 1) .notSent = .opened) ∧ r.checkGood = true
        ∧ 1 ≤ r.n ∧ r.n ≤ s.loader.cfg.moduleCount ∧ r.roundEcho = s.scan.roundNumber
        ∧ r.checkIndex = (s.scan.modules.getD (r.n - 1) .reset).k
        ∧ r.cells.length = 20 ∧ r.temps.length = 4 ∧ (∀ v ∈ r.cells, v ≤ 5000) ∧ r.total ≤ 100000 ∧ r.checkReading ≤ 5000
      ↔ acceptsReport (Work.start s) r = true)
    ∧ (acceptsReport (Work.start s) r = false → ∃ l n, exec (.moduleReport r) s = .next { s with lamps := l, freeCount := n })
    ∧ ∀ round, acceptsReport (Work.start s) r = true → s.scan.round = some round →
        (changeAt (fun _ => .accepted (s.scan.modules.getD (r.n - 1) .reset).readmit) (r.n - 1) round.windows).all Window.settled
          = false →
        ∃ l n, exec (.moduleReport r) s = .next { s with
          scan := { s.scan with
            modules := changeAt (fun m => { m with
              hasData := true, cells := r.cells, total := r.total, checkReading := r.checkReading
              temps := r.temps.map fun x => ⟨x, decide (-400 ≤ x ∧ x ≤ 1250)⟩, missCount := 0, stale := false })
              (r.n - 1) s.scan.modules
            answers := changeAt (fun _ => none) (r.n - 1) s.scan.answers
            round := some { round with
              windows := changeAt (fun _ => .accepted (s.scan.modules.getD (r.n - 1) .reset).readmit) (r.n - 1) round.windows } }
          lamps := l, freeCount := n }

/-- R3, R18, R41: a window that expires without a report is a miss: the readings are held and marked stale, and the third miss in a row
makes the module LOST and, where it was not LOST before, empties its bleed set with the reason NOT_NORMAL. VISIBILITY_LOST follows. (A
window that is not the last to settle; `RoundCompletes` states the last.) -/
def Obligations.AnswerWindowMissed : Prop :=
  ∀ (i : Nat) (s : State) (round : Round), s.scan.round = some round → round.windows.getD i .notSent = .opened →
    (changeAt (fun _ => .missed) i round.windows).all Window.settled = false →
    ∃ t, exec (.answerWindowExpiry (i + 1)) s = .next t
      ∧ t.scan = { s.scan with
          modules := changeAt (fun m => { m with
            missCount := min 3 (m.missCount + 1), stale := true
            check := if min 3 (m.missCount + 1) = 3 then .lost else m.check }) i s.scan.modules
          answers := changeAt (fun _ => none) i s.scan.answers
          round := some { round with windows := changeAt (fun _ => .missed) i round.windows }
          visibilityLost := visibilityLostOf s.loader.cfg.moduleCount t.scan.modules }
      ∧ ((s.scan.modules.getD i .reset).check ≠ .lost → (t.scan.modules.getD i .reset).check = .lost →
          t.balance = { s.balance with sets := changeAt (fun _ => []) i s.balance.sets
                                       reasons := changeAt (fun _ => .notNormal) i s.balance.reasons })
      ∧ ((s.scan.modules.getD i .reset).check = .lost ∨ (t.scan.modules.getD i .reset).check ≠ .lost → t.balance = s.balance)
      ∧ t.analog = s.analog ∧ t.hazard = s.hazard ∧ t.peers = s.peers ∧ t.loader = s.loader ∧ t.mem = s.mem

/-- R3, R4, R17, R18: the report or the miss that settles the last window completes the round: every module 1..M is evaluated by how its
window ended, VISIBILITY_LOST follows the check states, and the summary of the values now held is published, unless none has been and some
module has neither data nor is LOST. R41: a module that is then not NORMAL, or whose maximum in the summary is 45.0 °C or more, has its
bleed set emptied with its reason (NOT_NORMAL where both hold: the model's choice, log entry 18). R42: every cell of a set that the round
carried to a module whose report was accepted gains a quarter of a second. R17: the summary holds the lowest and the highest cell value
and valid temperature of the modules with data, of equal ones the one of the lower module and there of the lower cell or sensor, each
module's maximum, the string voltage and the counts. -/
def Obligations.RoundCompletes : Prop :=
  (∀ (c : Instr) (i : Nat) (win : Window) (records : List ModuleRecord) (s : State) (round : Round),
    (∃ r, c = .moduleReport r ∧ i = r.n - 1 ∧ acceptsReport (Work.start s) r = true
        ∧ win = .accepted (s.scan.modules.getD i .reset).readmit ∧ records = changeAt (fun m => m.take r) i s.scan.modules)
      ∨ (c = .answerWindowExpiry (i + 1) ∧ round.windows.getD i .notSent = .opened ∧ win = .missed
          ∧ records = changeAt (fun m => { m with
              missCount := min 3 (m.missCount + 1), stale := true
              check := if min 3 (m.missCount + 1) = 3 then .lost else m.check }) i s.scan.modules) →
    s.scan.round = some round → (changeAt (fun _ => win) i round.windows).all Window.settled = true →
    let windows := changeAt (fun _ => win) i round.windows
    ∃ t, exec c s = .next t
      ∧ t = { s with
          loader := { s.loader with writeStore := t.loader.writeStore }
          scan := t.scan, charge := t.charge, balance := t.balance, thermal := t.thermal, hazard := t.hazard, limit := t.limit
          line := t.line, permit := t.permit, conn := t.conn, lamps := t.lamps, freeCount := t.freeCount }
      ∧ t.scan.round = none
      ∧ t.scan.modules =
          mapFrom (fun j (m : ModuleRecord) =>
            if j < s.loader.cfg.moduleCount then
              m.evaluate (windows.getD j .notSent) round.quiet s.scan.roundNumber s.loader.cfg.tolSum s.loader.cfg.tolChk
            else m) 0 records
      ∧ t.scan.visibilityLost = visibilityLostOf s.loader.cfg.moduleCount t.scan.modules
      ∧ (s.scan.summary.isSome = true
            ∨ (∀ m ∈ t.scan.modules.take s.loader.cfg.moduleCount, m.hasData = true ∨ m.check = .lost) →
          t.scan.summary = some (buildSummary s.loader.cfg.moduleCount t.scan))
      ∧ (s.scan.summary = none → (∃ m ∈ t.scan.modules.take s.loader.cfg.moduleCount, m.hasData = false ∧ m.check ≠ .lost) →
          t.scan.summary = none)
      ∧ (∀ j, j < s.loader.cfg.moduleCount → j < s.balance.reasons.length →
          let m := t.scan.modules.getD j .reset
          let hot : Prop := ∃ x y, t.scan.summary = some x ∧ x.maxima.getD j none = some y ∧ 450 ≤ y
          (m.check ≠ .normal → t.balance.sets.getD j [] = [] ∧ t.balance.reasons.getD j .none = .notNormal)
          ∧ (m.check = .normal → hot → t.balance.sets.getD j [] = [] ∧ t.balance.reasons.getD j .none = .hot)
          ∧ (m.check = .normal → ¬ hot →
              t.balance.reasons.getD j .none = s.balance.reasons.getD j .none
                ∧ (t.hazard.level.isPre = false → t.balance.sets.getD j [] = s.balance.sets.getD j [])))
      ∧ ∀ j k, j < s.balance.quarters.length → j < s.balance.seconds.length → k < (s.balance.quarters.getD j []).length →
          k < (s.balance.seconds.getD j []).length →
          let q := (s.balance.quarters.getD j []).getD k 0
          let sec := (s.balance.seconds.getD j []).getD k 0
          let credited : Prop := (∃ b, windows.getD j .notSent = .accepted b) ∧ k + 1 ∈ round.carried.getD j []
          (credited → q = 3 → (t.balance.quarters.getD j []).getD k 0 = 0
            ∧ (t.balance.seconds.getD j []).getD k 0 = min 65535 (sec + 1))
          ∧ (credited → q ≠ 3 → (t.balance.quarters.getD j []).getD k 0 = q + 1 ∧ (t.balance.seconds.getD j []).getD k 0 = sec)
          ∧ (¬ credited → (t.balance.quarters.getD j []).getD k 0 = q ∧ (t.balance.seconds.getD j []).getD k 0 = sec))
  ∧ ∀ (count : Nat) (c : ScanState),
    let x := buildSummary count c
    let record (n : Nat) : ModuleRecord := c.modules.getD (n - 1) .reset
    let part (n : Nat) : Prop := 1 ≤ n ∧ n ≤ count ∧ n ≤ c.modules.length ∧ (record n).hasData = true
    let cell (n k : Nat) : Prop := part n ∧ 1 ≤ k ∧ k ≤ 20
    let sensor (n k : Nat) (v : Int) : Prop := part n ∧ 1 ≤ k ∧ (record n).temps[k - 1]? = some ⟨v, true⟩
    let before (n k n' k' : Nat) : Prop := n < n' ∨ (n = n' ∧ k ≤ k')
    x.round = c.roundNumber ∧ x.visibilityLost = c.visibilityLost
      ∧ (x.vMin = none ↔ ∀ n, ¬ part n) ∧ (x.vMax = none ↔ ∀ n, ¬ part n)
      ∧ (∀ y, x.vMin = some y → cell y.n y.cell ∧ y.mv = (record y.n).cellValue (y.cell - 1)
          ∧ ∀ n k, cell n k → y.mv < (record n).cellValue (k - 1)
              ∨ (y.mv = (record n).cellValue (k - 1) ∧ before y.n y.cell n k))
      ∧ (∀ y, x.vMax = some y → cell y.n y.cell ∧ y.mv = (record y.n).cellValue (y.cell - 1)
          ∧ ∀ n k, cell n k → (record n).cellValue (k - 1) < y.mv
              ∨ (y.mv = (record n).cellValue (k - 1) ∧ before y.n y.cell n k))
      ∧ (x.tMin = none ↔ ∀ n k v, ¬ sensor n k v) ∧ (x.tMax = none ↔ ∀ n k v, ¬ sensor n k v)
      ∧ (∀ y, x.tMin = some y → sensor y.n y.sensor y.value
          ∧ ∀ n k v, sensor n k v → y.value < v ∨ (y.value = v ∧ before y.n y.sensor n k))
      ∧ (∀ y, x.tMax = some y → sensor y.n y.sensor y.value
          ∧ ∀ n k v, sensor n k v → v < y.value ∨ (y.value = v ∧ before y.n y.sensor n k))
      ∧ x.maxima.length = c.modules.length
      ∧ (∀ i, i < c.modules.length →
          (x.maxima.getD i none = none ↔ ∀ k v, ¬ sensor (i + 1) k v)
          ∧ ∀ v, x.maxima.getD i none = some v → (∃ k, sensor (i + 1) k v) ∧ ∀ k v', sensor (i + 1) k v' → v' ≤ v)
      ∧ x.stringV = sumOf ((c.modules.take count).map fun m => if m.hasData = true then sumOf ((List.range 20).map m.cellValue) else 0)
      ∧ x.cellCount = 20 * ((c.modules.take count).filter (·.hasData)).length
      ∧ x.staleCount = ((c.modules.take count).filter (·.stale)).length

/-- R6: the check index advances, from 20 to 1, at the completion of a quiet round whose report was accepted, unless the module is then
LOST; in every other case it stays, and a module that is re-admitted restarts at 1. The index held is the one in the module's request. -/
def Obligations.CheckIndexRotates : Prop :=
  (∀ (m : ModuleRecord) (win : Window) (quiet : Bool) (round tolSum tolChk : Nat),
    ((m.evaluate win quiet round tolSum tolChk).k =
      if win = .accepted true ∧ m.check = .lost then 1
      else if quiet = true ∧ win.wasAccepted = true ∧ m.check ≠ .lost then (if m.k = 20 then 1 else m.k + 1)
      else m.k)
    ∧ (win.wasAccepted = true → m.check ≠ .lost → (m.evaluate win quiet round tolSum tolChk).check ≠ .lost))
  ∧ ∀ (s : ScanState) (r : Round) (n : Nat), (requestFor s r n).k = (s.modules.getD (n - 1) .reset).k

/-- R8: when the sum and the check both agree, cell k is confirmed. -/
def Obligations.ConfirmedCell : Prop :=
  ∀ (m : ModuleRecord) (round tolSum tolChk : Nat),
    m.check = .normal ∨ m.check = .search → m.substitutes = false →
    m.sumDifference.natAbs ≤ tolSum → m.checkDifference.natAbs ≤ tolChk →
      m.channelCheck round tolSum tolChk =
        { m with
          check := .normal, disagree := 0, search := 0
          channels := changeAt (fun c => if c = .suspect then .good else c) (m.k - 1) m.channels }

/-- R11, R13: two differences that agree within the sum tolerance place the fault at the check index: the channel is SUBSTITUTED, the
module is NORMAL with its counts at 0, and an empty error-hold record takes CELL_FAILED; where one cell's primary reading is wrong and the
module's total and check reading are right, the value derived for the cell is its true one. Two differences that do not describe one cell
make the module BLIND. R9, R10, R12: a round whose sum agrees and whose check does not ends SEARCH, and three such rounds in a row make a
module DEGRADED; from then on a sum that disagrees makes it BLIND, and a sum that agrees changes nothing. A sum that disagrees while the
check agrees begins or goes on with SEARCH, and the twentieth such round makes the module BLIND. R13: with a SUBSTITUTED cell the check
alone decides (that the check reading of that cell is compared with the value derived and held, that the error-hold record then carries D
= 0, and that UNPLACED and SEARCH_EXHAUSTED carry the check index as k, are the model's choices, log entry 21). R14, R15, R19: a BLIND
module stays BLIND, one without a valid temperature becomes BLIND, and a LOST module leaves LOST by an accepted report exactly when it
stands re-admitted. R16: the error-hold record keeps the first outcome. R4, R6, R13: the evaluation of a module at a round's completion is the
channel checking of these rules, made for an accepted report in a quiet round of a module in NORMAL, SEARCH or DEGRADED with a valid
temperature; then the derived value, and the next check index; in every other case no channel checking is made, and in a round that is not
quiet or for a window that was not accepted the derived value alone is. -/
def Obligations.FaultyCellAndCheckPath : Prop :=
  (∀ (m : ModuleRecord) (round tolSum tolChk : Nat),
    m.check = .normal ∨ m.check = .search → m.substitutes = false → m.cells.length = 20 → m.channels.length = 20 →
    1 ≤ m.k → m.k ≤ 20 → m.checkReading ≤ 5000 → m.sumDifference = m.checkDifference →
    tolSum < m.sumDifference.natAbs → tolChk < m.checkDifference.natAbs →
      let after := (m.channelCheck round tolSum tolChk).derive
      after.check = .normal ∧ after.channels.getD (m.k - 1) .good = .substituted
        ∧ after.subst = some m.checkReading ∧ after.cellValue (m.k - 1) = m.checkReading
        ∧ ∀ i, i ≠ m.k - 1 → after.channels.getD i .good = m.channels.getD i .good)
  ∧ (∀ (m : ModuleRecord) (round tolSum tolChk : Nat),
    m.check = .normal ∨ m.check = .search → m.substitutes = false → tolSum < m.sumDifference.natAbs → tolChk < m.checkDifference.natAbs →
    (m.sumDifference - m.checkDifference).natAbs ≤ tolSum →
      m.channelCheck round tolSum tolChk = { m with
        check := .normal, search := 0, disagree := 0, channels := changeAt (fun _ => .substituted) (m.k - 1) m.channels
        errorHold :=
          match m.errorHold with
          | some e => some e
          | none => some ⟨round, m.sumDifference, m.k, .cellFailed⟩ })
  ∧ (∀ (m : ModuleRecord) (round tolSum tolChk : Nat),
    (m.check = .normal → m.substitutes = false → m.sumDifference.natAbs ≤ tolSum → tolChk < m.checkDifference.natAbs →
      m.disagree ≤ 2 →
      (m.channelCheck round tolSum tolChk).disagree = m.disagree + 1
        ∧ ((m.channelCheck round tolSum tolChk).check = .degraded ↔ m.disagree = 2)
        ∧ (m.channelCheck round tolSum tolChk).channels = m.channels)
    ∧ (m.check = .degraded →
      (m.sumDifference.natAbs ≤ tolSum → m.channelCheck round tolSum tolChk = m)
      ∧ (tolSum < m.sumDifference.natAbs →
          m.channelCheck round tolSum tolChk =
            { m with
              check := .blind
              errorHold :=
                match m.errorHold with
                | some e => some e
                | none => some ⟨round, m.sumDifference, m.k, .degradedSumFault⟩ })))
  ∧ (∀ (m : ModuleRecord) (round tolSum tolChk : Nat),
    let latch (d : Int) (k : Nat) (o : ErrorOutcome) : Option ErrorHold :=
      match m.errorHold with
      | some e => some e
      | none => some ⟨round, d, k, o⟩
    let confirmed := changeAt (fun c => if c = .suspect then .good else c) (m.k - 1) m.channels
    (m.check ≠ .degraded → m.substitutes = false →
      (m.check = .normal → tolSum < m.sumDifference.natAbs → m.checkDifference.natAbs ≤ tolChk →
        m.channelCheck round tolSum tolChk = { m with
          check := .search, search := 1, disagree := 0
          channels := mapFrom (fun i c => if i + 1 ≠ m.k ∧ c = .good then .suspect else c) 0 confirmed
          errorHold := latch m.sumDifference m.k .searchEntered })
      ∧ (m.check = .search → m.sumDifference.natAbs ≤ tolSum → tolChk < m.checkDifference.natAbs → m.disagree ≤ 2 →
        m.channelCheck round tolSum tolChk =
          if m.disagree = 2 then
            { m with
              check := .degraded, search := 0, disagree := 3, errorHold := latch m.sumDifference m.k .checkPathDegraded }
          else { m with check := .normal, search := 0, disagree := m.disagree + 1 })
      ∧ (m.check = .search → tolSum < m.sumDifference.natAbs → m.checkDifference.natAbs ≤ tolChk → m.search ≠ 19 →
        m.channelCheck round tolSum tolChk = { m with search := m.search + 1, disagree := 0, channels := confirmed })
      ∧ (m.check = .search → tolSum < m.sumDifference.natAbs → m.checkDifference.natAbs ≤ tolChk → m.search = 19 →
        m.channelCheck round tolSum tolChk = { m with
          check := .blind, search := 20, disagree := 0, channels := confirmed
          errorHold := latch m.sumDifference m.k .searchExhausted })
      ∧ (tolSum < m.sumDifference.natAbs → tolChk < m.checkDifference.natAbs →
          tolSum < (m.sumDifference - m.checkDifference).natAbs →
        m.channelCheck round tolSum tolChk = { m with check := .blind, errorHold := latch m.sumDifference m.k .unplaced }))
    ∧ (m.check ≠ .degraded → m.substitutes = true →
      (∀ v, m.channels.getD (m.k - 1) .good = .substituted → m.subst = some v →
        (((m.checkReading : Int) - v).natAbs ≤ tolChk → m.channelCheck round tolSum tolChk = m)
        ∧ (tolChk < ((m.checkReading : Int) - v).natAbs →
            m.channelCheck round tolSum tolChk = { m with check := .blind, errorHold := latch 0 m.k .substituteConflict }))
      ∧ (m.channels.getD (m.k - 1) .good ≠ .substituted →
        (m.checkDifference.natAbs ≤ tolChk → m.channelCheck round tolSum tolChk = { m with disagree := 0, channels := confirmed })
        ∧ (tolChk < m.checkDifference.natAbs →
            m.channelCheck round tolSum tolChk = { m with
              check := .blind, channels := changeAt (fun _ => .failed) (m.k - 1) m.channels
              errorHold := latch 0 m.k .secondFault }))))
  ∧ (∀ (m : ModuleRecord) (quiet readmitted : Bool) (round tolSum tolChk : Nat),
    let after := m.evaluate (.accepted readmitted) quiet round tolSum tolChk
    (m.check = .blind → after.check = .blind ∧ after.channels = m.channels)
      ∧ (m.check ≠ .lost → (∀ x ∈ m.temps, x.valid = false) → after.check = .blind ∧ after.channels = m.channels
          ∧ (m.errorHold = none → after.errorHold = some ⟨round, 0, 0, .noTemperature⟩)
          ∧ (m.errorHold ≠ none → after.errorHold = m.errorHold))
      ∧ (m.check = .lost → readmitted = false → after.check = .lost ∧ after.k = m.k ∧ after.channels = m.channels)
      ∧ (m.check = .lost → readmitted = true → after = { m with
          check := .normal, channels := List.replicate 20 .good, subst := none, disagree := 0, search := 0, k := 1
          readmit := false })
      ∧ (quiet = false → m.check ≠ .lost → (∃ x ∈ m.temps, x.valid = true) →
          after = { m with subst := after.subst })
      ∧ ∀ j, j < 20 → m.cells.length = 20 → (∀ i, m.channels.getD i .good = .substituted ↔ i = j) →
          m.derive.subst = some (min 5000 (m.total - (sumOf m.cells - m.cells.getD j 0)))
            ∧ m.derive.cellValue j = min 5000 (m.total - (sumOf m.cells - m.cells.getD j 0))
            ∧ ∀ i, i ≠ j → m.derive.cellValue i = m.cells.getD i 0)
  ∧ ∀ (m : ModuleRecord) (win : Window) (quiet : Bool) (round tolSum tolChk : Nat),
    let after := m.evaluate win quiet round tolSum tolChk
    let next : Nat := if m.k = 20 then 1 else m.k + 1
    let measured : Prop := ∃ x ∈ m.temps, x.valid = true
    (m.substitutes = false → m.derive = { m with subst := none })
      ∧ (win.wasAccepted = false → after = m.derive)
      ∧ (win.wasAccepted = true → m.check = .normal ∨ m.check = .search ∨ m.check = .degraded → measured →
          after = if quiet = true then { (m.channelCheck round tolSum tolChk).derive with k := next } else m.derive)
      ∧ (win.wasAccepted = true → m.check = .blind → measured →
          after = if quiet = true then { m.derive with k := next } else m.derive)
      ∧ (win.wasAccepted = true → m.check ≠ .lost → ¬ measured →
          after = { m.derive with
            check := .blind
            errorHold :=
              match m.errorHold with
              | some e => some e
              | none => some ⟨round, 0, 0, .noTemperature⟩
            k := if quiet = true then next else m.k })
      ∧ (win = .accepted false → m.check = .lost → after = m.derive)

/-! ## Analog watch and charge accounting -/

/-- R21, R29 to R31, R40: a current sample: it saturates at ±1000.0 A with its over-range flag, Q changes by −I within 0..Qfull and SOC
follows, and a sample above 50.0 A empties every bleed set. Calibration at full makes Q its full value and clears SOC_UNCERTAIN. R31: at a
sample and at a publication the full-calibration timer starts where the condition holds and is armed, and stops and is armed where it
does not. R28: the first summary gives the start estimate by the OCV table. R32: three summaries in a row at or below 2900 mV calibrate
at empty, once. (That VISIBILITY_LOST is to be clear both in the summary and as it
stands, and that at the first publication the estimate comes before the tests, are the model's choices, log entry 18.) -/
def Obligations.ChargeAccounting : Prop :=
  let full (t : State) : Prop :=
    (∃ x y, t.scan.summary = some x ∧ x.vMax = some y ∧ 3500 ≤ y.mv ∧ x.staleCount = 0 ∧ x.visibilityLost = false)
      ∧ t.scan.visibilityLost = false ∧ -100 < t.analog.sample ∧ t.analog.sample ≤ 0 ∧ t.analog.overRange = false
  let tested (s t : State) : Prop :=
    (full t → s.charge.armed = true → s.charge.fullTimer = none → t.charge.fullTimer = some 0 ∧ t.charge.armed = true)
      ∧ (full t → s.charge.armed = false ∨ s.charge.fullTimer ≠ none →
          t.charge.fullTimer = s.charge.fullTimer ∧ t.charge.armed = s.charge.armed)
      ∧ (¬ full t → t.charge.fullTimer = none ∧ t.charge.armed = true)
  (∀ (i : Int) (s : State), s.Running →
    ∃ t, exec (.currentConversion i) s = .next t
      ∧ t = { s with
          analog := { s.analog with
            currentTimer := some 0, sample := max (-10000) (min 10000 i), overRange := decide (i < -10000 ∨ 10000 < i) }
          charge := t.charge, balance := t.balance, lamps := t.lamps, freeCount := t.freeCount }
      ∧ (s.charge.condition = .noEstimate → t.charge = s.charge)
      ∧ (s.charge.condition = .counting →
          (t.charge.q : Int) = max 0 (min (s.loader.cfg.qFull : Int) ((s.charge.q : Int) - t.analog.sample))
            ∧ t.charge.soc = t.charge.q * 1000 / s.loader.cfg.qFull
            ∧ t.charge.uncertain = (s.charge.uncertain || t.analog.overRange)
            ∧ t.charge.condition = .counting ∧ t.charge.lastKind = s.charge.lastKind
            ∧ t.charge.lastUptime = s.charge.lastUptime ∧ t.charge.emptyCount = s.charge.emptyCount ∧ tested s t)
      ∧ (-500 ≤ i ∧ i ≤ 500 → t.balance = s.balance)
      ∧ (i < -500 ∨ 500 < i →
          t.balance = { s.balance with sets := List.replicate 16 [], result := .idleCurrent, target := none }))
  ∧ (∀ s : State, s.charge.fullTimer ≠ none →
    ∃ l n, exec .calibrationAtFull s = .next { s with
      charge := { s.charge with
        q := s.loader.cfg.qFull, soc := s.loader.cfg.qFull * 1000 / s.loader.cfg.qFull, uncertain := false, fullTimer := none
        armed := false, lastKind := .full, lastUptime := s.loader.uptime }
      lamps := l, freeCount := n })
  ∧ ∀ (c : Instr) (s t : State) (x : Summary), (∃ r, c = .moduleReport r) ∨ (∃ n, c = .answerWindowExpiry n) →
    exec c s = .next t → s.scan.round ≠ none → t.scan.round = none → t.scan.summary = some x →
    let v := x.stringV / x.cellCount
    let low : Prop := (∃ y, x.vMin = some y ∧ y.mv ≤ 2900) ∧ x.staleCount = 0 ∧ x.visibilityLost = false
    ((∃ r, c = .moduleReport r) → t.scan.visibilityLost = s.scan.visibilityLost → tested s t)
      ∧ (¬ full t → t.charge.fullTimer = none ∧ t.charge.armed = true)
      ∧ (full t → t.charge.fullTimer ≠ none ∨ t.charge.armed = false)
      ∧ (s.charge.condition = .noEstimate → 0 < x.cellCount → s.charge.emptyCount ≤ 1 →
          t.charge.condition = .counting ∧ t.charge.uncertain = s.charge.uncertain ∧ t.charge.lastKind = .startEstimate
            ∧ t.charge.lastUptime = s.loader.uptime ∧ t.charge.soc = t.charge.q * 1000 / s.loader.cfg.qFull
            ∧ (s.loader.cfg.ocv.length = 11 → (∀ i, i < 10 → s.loader.cfg.ocv.getD i 0 ≤ s.loader.cfg.ocv.getD (i + 1) 0) →
                (v < s.loader.cfg.ocv.getD 0 0 → t.charge.q = 0)
                ∧ (s.loader.cfg.ocv.getD 10 0 ≤ v → t.charge.q = s.loader.cfg.qFull)
                ∧ ∀ i, i < 10 → s.loader.cfg.ocv.getD i 0 ≤ v → v < s.loader.cfg.ocv.getD (i + 1) 0 →
                    t.charge.q = s.loader.cfg.qFull
                      * (100 * i + 100 * (v - s.loader.cfg.ocv.getD i 0)
                          / (s.loader.cfg.ocv.getD (i + 1) 0 - s.loader.cfg.ocv.getD i 0)) / 1000))
      ∧ (s.charge.condition = .counting →
          t.charge.condition = .counting
          ∧ (low → t.charge.emptyCount = min 3 (s.charge.emptyCount + 1))
          ∧ (¬ low → t.charge.emptyCount = 0)
          ∧ (low → s.charge.emptyCount = 2 →
              t.charge.q = 0 ∧ t.charge.soc = 0 ∧ t.charge.uncertain = false ∧ t.charge.lastKind = .empty
                ∧ t.charge.lastUptime = s.loader.uptime)
          ∧ (¬ low ∨ s.charge.emptyCount ≤ 1 ∨ s.charge.emptyCount = 3 →
              t.charge.q = s.charge.q ∧ t.charge.soc = s.charge.soc ∧ t.charge.uncertain = s.charge.uncertain
                ∧ t.charge.lastKind = s.charge.lastKind ∧ t.charge.lastUptime = s.charge.lastUptime))

/-- R23, R25: the conversions of the gas loops (reading 0 to 2500, concentration 0 to 1000 ppm) and of the three temperatures (a value
outside −40.0..125.0 °C sets FAULT and leaves the last valid value). -/
def Obligations.AnalogConversions : Prop :=
  ∀ s : State, s.Running →
    (∀ a b : Nat, ∃ t, exec (.gasLoopConversion a b) s = .next t
      ∧ t = { s with
          analog := { s.analog with gasTimer := some 0, gasA := t.analog.gasA, gasB := t.analog.gasB }
          lamps := t.lamps, freeCount := t.freeCount }
      ∧ t.analog.gasA.reading = min 2500 a ∧ t.analog.gasB.reading = min 2500 b
      ∧ (a ≤ 400 → t.analog.gasA.ppm = 0) ∧ (2000 ≤ a → t.analog.gasA.ppm = 1000)
      ∧ (400 < a → a < 2000 → t.analog.gasA.ppm = (a - 400) * 1000 / 1600)
      ∧ (b ≤ 400 → t.analog.gasB.ppm = 0) ∧ (2000 ≤ b → t.analog.gasB.ppm = 1000)
      ∧ (400 < b → b < 2000 → t.analog.gasB.ppm = (b - 400) * 1000 / 1600))
    ∧ ∀ x y z : Int, ∃ l n, exec (.temperatureConversion x y z) s = .next { s with
        analog := { s.analog with
          temperatureTimer := some 0
          inlet := if -400 ≤ x ∧ x ≤ 1250 then ⟨some x, false⟩ else ⟨s.analog.inlet.value, true⟩
          outlet := if -400 ≤ y ∧ y ≤ 1250 then ⟨some y, false⟩ else ⟨s.analog.outlet.value, true⟩
          ambient := if -400 ≤ z ∧ z ≤ 1250 then ⟨some z, false⟩ else ⟨s.analog.ambient.value, true⟩ }
        lamps := l, freeCount := n }

/-- R22, R181: when the current reaches the trip point of a direction with the contactors closed, everything opens at the event, the
latch of the direction is set, and the state becomes TRIPPED with exit cause FAST_TRIP (without DUPLICATE); in a sequence it aborts it
without counting a failure (R177), in WAIT_PERMIT the state becomes OPEN (R174), and in OPEN, TRIPPED and LOCKED the latch alone is set.
Between the clear point and the trip point nothing changes. R181: when the comparator clears, 10 A below the trip point, the latch is
cleared, except in TRIPPED (in OPEN: with a dispatch that is not RUN, so that OPEN is not left at once). R181: a summary published at a
round's completion with V_max_cell at 3650 mV or more (CELL_HIGH) or V_min_cell at 2700 mV or less (CELL_LOW) opens everything where the
contactors are not all open, without counting a failure (R177), and does nothing where they are; a summary within the limits opens nothing.
(Where both limits are met the exit cause is CELL_HIGH: the model's choice, log entry 17. With the hazard level as before; without
DUPLICATE.) -/
def Obligations.FastTripOpens : Prop :=
  (∀ (d : Direction) (i : Int) (s : State), s.Configured →
    let latched (t : State) : Prop :=
      (d = .discharge → t.conn.tripDischarge = true ∧ t.conn.tripCharge = s.conn.tripCharge)
        ∧ (d = .charge → t.conn.tripCharge = true ∧ t.conn.tripDischarge = s.conn.tripDischarge)
    (s.conn.phase = .connected ∨ s.conn.phase = .rideThrough ∨ s.conn.phase = .disconnecting → s.line.duplicate = false →
      s.analog.trip d = false → tripPoint s.loader.cfg d ≤ towards d i →
      ∃ t, exec (.fastTripComparator d i) s = .next t
        ∧ t = { s with
            analog := s.analog.setTrip d true, conn := t.conn, limit := t.limit, lamps := t.lamps, freeCount := t.freeCount }
        ∧ t.conn.phase = .tripped ∧ t.DrivesOpen ∧ t.conn.stateTimer = some 0
        ∧ latched t
        ∧ t.conn.lastExit = some ⟨.fastTrip, s.conn.phase, s.loader.uptime⟩
        ∧ (s.conn.phase = .connected → t.limit.setpoint = 0))
    ∧ (s.conn.phase = .precharging ∨ s.conn.phase = .dcClosed → s.line.duplicate = false →
        s.analog.trip d = false → tripPoint s.loader.cfg d ≤ towards d i →
      ∃ t, exec (.fastTripComparator d i) s = .next t
        ∧ State.ClientFrame { s with analog := s.analog.setTrip d true } t
        ∧ t.conn.phase = .tripped ∧ t.DrivesOpen ∧ t.conn.stateTimer = some 0 ∧ t.conn.failures = s.conn.failures
        ∧ latched t
        ∧ t.conn.lastExit = some ⟨.fastTrip, s.conn.phase, s.loader.uptime⟩)
    ∧ (s.conn.phase = .waitPermit → s.analog.trip d = false → tripPoint s.loader.cfg d ≤ towards d i →
      ∃ t, exec (.fastTripComparator d i) s = .next t
        ∧ State.ClientFrame { s with analog := s.analog.setTrip d true } t
        ∧ t.conn.phase = .opened ∧ t.DrivesOpen ∧ t.conn.lastExit = s.conn.lastExit
        ∧ latched t
        ∧ ∀ need ∈ t.permit.queue, need.purpose ≠ .precharge)
    ∧ (s.conn.phase = .opened ∨ s.conn.phase = .tripped ∨ s.conn.phase = .locked →
        s.analog.trip d = false → tripPoint s.loader.cfg d ≤ towards d i →
      ∃ t, exec (.fastTripComparator d i) s = .next t
        ∧ t = { s with
            analog := s.analog.setTrip d true
            conn := { s.conn with tripDischarge := t.conn.tripDischarge, tripCharge := t.conn.tripCharge }
            lamps := t.lamps, freeCount := t.freeCount }
        ∧ latched t)
    ∧ (tripPoint s.loader.cfg d - 100 < towards d i → towards d i < tripPoint s.loader.cfg d →
      ∃ l n, exec (.fastTripComparator d i) s = .next { s with lamps := l, freeCount := n })
    ∧ (s.analog.trip d = true → towards d i ≤ tripPoint s.loader.cfg d - 100 →
        s.conn.phase = .opened → s.peers.dispatch.mode ≠ some .run →
      ∃ l n, exec (.fastTripComparator d i) s = .next { s with
        analog := s.analog.setTrip d false, conn := s.conn.setTrip d false, lamps := l, freeCount := n })
    ∧ (s.analog.trip d = true → towards d i ≤ tripPoint s.loader.cfg d - 100 →
        s.conn.phase ≠ .opened → s.conn.phase ≠ .tripped →
      ∃ l n, exec (.fastTripComparator d i) s = .next { s with
        analog := s.analog.setTrip d false, conn := s.conn.setTrip d false, lamps := l, freeCount := n })
    ∧ (s.analog.trip d = true → towards d i ≤ tripPoint s.loader.cfg d - 100 → s.conn.phase = .tripped →
      ∃ l n, exec (.fastTripComparator d i) s = .next { s with analog := s.analog.setTrip d false, lamps := l, freeCount := n }))
  ∧ ∀ (c : Instr) (s t : State) (x : Summary), (∃ r, c = .moduleReport r) ∨ (∃ n, c = .answerWindowExpiry n) →
    s.Configured → s.line.duplicate = false → exec c s = .next t → s.scan.round ≠ none → t.scan.round = none →
    t.scan.summary = some x → t.hazard.level = s.hazard.level →
    let high : Prop := ∃ y, x.vMax = some y ∧ 3650 ≤ y.mv
    let low : Prop := ∃ y, x.vMin = some y ∧ y.mv ≤ 2700
    (∀ cause, (high ∧ cause = .cellHigh) ∨ (¬ high ∧ low ∧ cause = .cellLow) →
        s.conn.phase ≠ .opened → s.conn.phase ≠ .waitPermit → s.conn.phase ≠ .tripped → s.conn.phase ≠ .locked →
      t.conn.phase = .tripped ∧ t.DrivesOpen ∧ t.conn.stateTimer = some 0 ∧ t.conn.failures = s.conn.failures
        ∧ t.conn.lastExit = some ⟨cause, s.conn.phase, s.loader.uptime⟩
        ∧ (s.conn.phase = .connected → t.limit.setpoint = 0))
    ∧ (¬ high → ¬ low → s.conn.phase ≠ .opened → s.conn.phase ≠ .waitPermit →
        t.conn.phase = s.conn.phase ∧ t.conn.drives = s.conn.drives ∧ t.conn.stateTimer = s.conn.stateTimer
          ∧ t.conn.lastExit = s.conn.lastExit)
    ∧ (s.conn.phase = .tripped ∨ s.conn.phase = .locked →
        t.conn.phase = s.conn.phase ∧ t.conn.stateTimer = s.conn.stateTimer ∧ t.conn.lastExit = s.conn.lastExit)
    ∧ (s.conn.phase = .opened → s.peers.dispatch.mode ≠ some .run → t.conn.phase = .opened ∧ t.conn.lastExit = s.conn.lastExit)

/-- R23, R24, R67, R72: a gas level comparator sets when the concentration reaches its set value, clears when it falls to its clear value or
below, and keeps its state between; a crossing puts its member into the indication set or takes it out, and the level rises as the set
asks. While the loop's FAULT comparator is set nothing changes. The supervision sets below 3.60 mA and above 21.00 mA, and puts the loop's
fault into the set; it clears from 3.80 to 20.80 mA, where the fault leaves the set and both level comparators take the state that the
concentration then gives (the three reports are taken in the order fault, L1, L2: the model's choice, log entry 8). R71, R72: the WATCH,
PRE and ALARM conditions of a set and the level that a set asks for. -/
def Obligations.GasComparators : Prop :=
  (∀ (loop : DetectorLoop) (g : GasLevel) (ppm : Nat) (s : State), s.Running →
    let old := (s.analog.comparators loop).level g
    ((s.analog.comparators loop).fault = true →
      ∃ l n, exec (.gasLevelComparator loop g ppm) s = .next { s with lamps := l, freeCount := n })
    ∧ ((s.analog.comparators loop).fault = false →
      ∃ t, exec (.gasLevelComparator loop g ppm) s = .next t
        ∧ State.HazardFrame { s with analog := t.analog } t
        ∧ (∀ loop' g', ¬(loop' = loop ∧ g' = g) → (t.analog.comparators loop').level g' = (s.analog.comparators loop').level g')
        ∧ (∀ loop', (t.analog.comparators loop').fault = (s.analog.comparators loop').fault)
        ∧ ((t.analog.comparators loop).level g = true ↔
            (match g with | .l1 => s.loader.cfg.l1Set | .l2 => s.loader.cfg.l2Set) ≤ ppm
              ∨ ((match g with | .l1 => s.loader.cfg.l1Clear | .l2 => s.loader.cfg.l2Clear) < ppm ∧ old = true))
        ∧ ((t.analog.comparators loop).level g = old → t.hazard = s.hazard)
        ∧ ((t.analog.comparators loop).level g ≠ old →
            t.hazard.set = setMember (gasMember loop g) ((t.analog.comparators loop).level g) s.hazard.set
              ∧ t.hazard.level = (if t.hazard.set = s.hazard.set then s.hazard.level else s.hazard.levelAfter t.hazard.set))))
  ∧ (∀ (loop : DetectorLoop) (current : Nat) (s : State), s.Running → (s.analog.comparators loop).fault = false →
    (current < 360 ∨ 2100 < current →
      ∃ t, exec (.loopFaultComparator loop current) s = .next t
        ∧ State.HazardFrame { s with analog := s.analog.onLoop loop fun c => { c with fault := true } } t
        ∧ t.hazard.set = setMember (gasFaultMember loop) true s.hazard.set
        ∧ t.hazard.level = (if t.hazard.set = s.hazard.set then s.hazard.level else s.hazard.levelAfter t.hazard.set))
    ∧ (360 ≤ current → current ≤ 2100 →
      ∃ l n, exec (.loopFaultComparator loop current) s = .next { s with lamps := l, freeCount := n }))
  ∧ (∀ (loop : DetectorLoop) (current : Nat) (s : State), s.Running → (s.analog.comparators loop).fault = true →
    (current < 380 ∨ 2080 < current →
      ∃ l n, exec (.loopFaultComparator loop current) s = .next { s with lamps := l, freeCount := n })
    ∧ (380 ≤ current → current ≤ 2080 →
      let ppm := if current ≤ 400 then 0 else if 2000 ≤ current then 1000 else (current - 400) * 1000 / 1600
      let c := s.analog.comparators loop
      ∃ t v₁ v₂, exec (.loopFaultComparator loop current) s = .next t
        ∧ (v₁ = true ↔ s.loader.cfg.l1Set ≤ ppm ∨ (s.loader.cfg.l1Clear < ppm ∧ c.l1 = true))
        ∧ (v₂ = true ↔ s.loader.cfg.l2Set ≤ ppm ∨ (s.loader.cfg.l2Clear < ppm ∧ c.l2 = true))
        ∧ State.HazardFrame { s with analog := s.analog.onLoop loop fun _ => ⟨v₁, v₂, false⟩ } t
        ∧ let taken (set : List Indication) (h : HazardState) : HazardState :=
            { h with set := set, level := if set = h.set then h.level else h.levelAfter set }
          let h₁ := taken (setMember (gasFaultMember loop) false s.hazard.set) s.hazard
          let h₂ := if v₁ = c.l1 then h₁ else taken (setMember (gasMember loop .l1) v₁ h₁.set) h₁
          let h₃ := if v₂ = c.l2 then h₂ else taken (setMember (gasMember loop .l2) v₂ h₂.set) h₂
          t.hazard.set = h₃.set ∧ t.hazard.level = h₃.level))
  ∧ ∀ set : List Indication,
    let pre : Prop := (.gasAL1 ∈ set ∧ .gasBL1 ∈ set) ∨ .gasAL2 ∈ set ∨ .gasBL2 ∈ set ∨ .heatHigh ∈ set
      ∨ ((.smokeA ∈ set ∨ .smokeB ∈ set) ∧ ∃ i ∈ set, kindOf i ≠ 2)
    let alarm : Prop := (.smokeA ∈ set ∧ .smokeB ∈ set) ∨ .manual ∈ set
      ∨ ∃ i ∈ set, ∃ j ∈ set, i ∈ [.smokeA, .smokeB, .gasAL2, .gasBL2] ∧ kindOf j ≠ 5 ∧ kindOf i ≠ kindOf j
    (watchCondition set = true ↔ set ≠ []) ∧ (preCondition set = true ↔ pre) ∧ (alarmCondition set = true ↔ alarm)
      ∧ (alarm → risingLevel set = .alarm) ∧ (¬ alarm → pre → risingLevel set = .preAlarm)
      ∧ (¬ alarm → ¬ pre → set ≠ [] → risingLevel set = .watch) ∧ (set = [] → risingLevel set = .clear)

/-! ## Balancing -/

/-- R35, R37: an evaluation empties every set when the level is PRE_ALARM or above, the latest sample is above 50.0 A or over range, or no
cell has reached 3400 mV (so too where the summary has no cell: the model's choice, log entry 18), by the first of these that holds;
otherwise it balances to V_min_cell plus the band. R38: each module is excluded by the first test that it fails: no data, a check state
other than NORMAL, a stale record, or a highest valid temperature of 45.0 °C or more (a module whose summary carries no maximum counts as
HOT: the model's choice, log entry 18). -/
def Obligations.BalanceEvaluates : Prop :=
  ∀ s : State, s.balance.evalTimer ≠ none →
    let idle (r : BalanceResult) (t : State) : Prop :=
      t = { s with
        balance := { s.balance with
          evalTimer := some 0, result := r, target := none, reasons := List.replicate 16 .none, sets := List.replicate 16 [] }
        lamps := t.lamps, freeCount := t.freeCount }
    ∃ t, exec .balanceEvaluation s = .next t
      ∧ (s.hazard.level.isPre = true → idle .idleHazard t)
      ∧ (s.hazard.level.isPre = false → 500 < s.analog.sample.natAbs ∨ s.analog.overRange = true → idle .idleCurrent t)
      ∧ (s.hazard.level.isPre = false → s.analog.sample.natAbs ≤ 500 → s.analog.overRange = false →
          (∀ x, s.scan.summary.bind (·.vMax) = some x → x.mv < 3400) → idle .idleVoltage t)
      ∧ (∀ x lo, s.hazard.level.isPre = false → s.analog.sample.natAbs ≤ 500 → s.analog.overRange = false →
          s.scan.summary.bind (·.vMax) = some x → 3400 ≤ x.mv → s.scan.summary.bind (·.vMin) = some lo →
          t = { s with
            balance := { s.balance with
              evalTimer := some 0, result := .balancing, target := some (lo.mv + s.loader.cfg.band)
              reasons := t.balance.reasons, sets := t.balance.sets }
            lamps := t.lamps, freeCount := t.freeCount }
          ∧ ∀ i, i < s.loader.cfg.moduleCount → i < s.scan.modules.length →
              let m := s.scan.modules.getD i .reset
              let cool : Prop := ∃ y v, s.scan.summary = some y ∧ y.maxima.getD i none = some v ∧ v < 450
              (m.hasData = false → t.balance.reasons[i]? = some .noData)
              ∧ (m.hasData = true → m.check ≠ .normal → t.balance.reasons[i]? = some .notNormal)
              ∧ (m.hasData = true → m.check = .normal → m.stale = true → t.balance.reasons[i]? = some .stale)
              ∧ (m.hasData = true → m.check = .normal → m.stale = false → ¬ cool → t.balance.reasons[i]? = some .hot)
              ∧ (m.hasData = true → m.check = .normal → m.stale = false → cool → t.balance.reasons[i]? = some .none)
              ∧ t.balance.sets[i]? = some
                  (if t.balance.reasons[i]? = some .none then bleedSet m (lo.mv + s.loader.cfg.band) else []))

/-- R39: a bleed set holds at most 8 cells, each strictly above the target, and no cell left out ranks above a cell taken: the cells
taken are the highest, and of equal ones those of lower index. -/
def Obligations.BleedSetsRanked : Prop :=
  ∀ (m : ModuleRecord) (target : Nat),
    (bleedSet m target).length ≤ 8 ∧ (bleedSet m target).Nodup
      ∧ (∀ c ∈ bleedSet m target, 1 ≤ c ∧ c ≤ 20 ∧ target < m.cellValue (c - 1))
      ∧ (∀ c d, c ∈ bleedSet m target → d ∉ bleedSet m target → 1 ≤ d → d ≤ 20 →
          m.cellValue (d - 1) < m.cellValue (c - 1) ∨ (m.cellValue (d - 1) = m.cellValue (c - 1) ∧ c < d)
            ∨ m.cellValue (d - 1) ≤ target)
      ∧ ((∃ d, 1 ≤ d ∧ d ≤ 20 ∧ target < m.cellValue (d - 1) ∧ d ∉ bleedSet m target) → (bleedSet m target).length = 8)

/-! ## Thermal control -/

/-- R47, R50, R55: the compressor's timers: both stop at their time; at the end of the minimum-off time in COOL_FORCED an unfailed
compressor that stands still is switched on, with its minimum-on timer and its start monitor (or confirmed at once, where the run
feedback is active already: the model's choice, log entry 23). R55: run feedback seen while the start monitor runs stops it and
confirms the compressor, and in STARTING R62 completes the need as STARTED, at which R158 releases the hold; feedback lost by a confirmed
compressor starts the monitor again. Feedback lost while the monitor runs, feedback seen once the monitor has stopped, and feedback seen while
the output is off change nothing but the input. -/
def Obligations.Compressor : Prop :=
  (∀ s : State, s.Running →
    (∃ l n, exec .minimumOnTimerExpiry s = .next { s with
      thermal := { s.thermal with minOn := none }, lamps := l, freeCount := n })
    ∧ (s.thermal.minOff ≠ none →
        s.thermal.forced ≠ .coolForced ∨ s.thermal.compressorFailed = true ∨ s.thermal.compressor = true →
        ∃ l n, exec .minimumOffTimerExpiry s = .next { s with
          thermal := { s.thermal with minOff := none }, lamps := l, freeCount := n })
    ∧ (s.thermal.minOff ≠ none → s.thermal.forced = .coolForced → s.thermal.compressorFailed = false →
        s.thermal.compressor = false →
        ∃ l n, exec .minimumOffTimerExpiry s = .next { s with
          thermal := { s.thermal with
            minOff := none, compressor := true, minOn := some 0
            monitor := if s.thermal.feedback then none else some 0, confirmed := s.thermal.feedback }
          lamps := l, freeCount := n }))
  ∧ ∀ s : State, s.Running →
    (s.thermal.compressor = true → s.thermal.monitor ≠ none → s.thermal.need ≠ .starting →
      ∃ l n, exec (.runFeedbackChange true) s = .next { s with
        thermal := { s.thermal with feedback := true, monitor := none, confirmed := true }, lamps := l, freeCount := n })
    ∧ (∀ need, s.thermal.compressor = true → s.thermal.monitor ≠ none → s.thermal.need = .starting →
        s.permit.served = some need → need.purpose.isThermal = true → s.permit.queue = [] →
      ∃ t, exec (.runFeedbackChange true) s = .next t
        ∧ s.ClientFrame t ∧ t.conn = s.conn ∧ t.limit = s.limit
        ∧ t.thermal = { s.thermal with feedback := true, monitor := none, confirmed := true, need := .none }
        ∧ t.permit.phase = .idle ∧ t.permit.served = none ∧ t.permit.hold = none
        ∧ t.permit.lastHold = some ⟨need.purpose, .started, s.permit.heldAt, s.loader.uptime⟩)
    ∧ (s.thermal.compressor = true → s.thermal.monitor = none →
      ∃ l n, exec (.runFeedbackChange true) s = .next { s with
        thermal := { s.thermal with feedback := true }, lamps := l, freeCount := n })
    ∧ (s.thermal.compressor = true → s.thermal.confirmed = true →
      ∃ l n, exec (.runFeedbackChange false) s = .next { s with
        thermal := { s.thermal with feedback := false, monitor := some 0, confirmed := false }, lamps := l, freeCount := n })
    ∧ (s.thermal.compressor = true → s.thermal.confirmed = false →
      ∃ l n, exec (.runFeedbackChange false) s = .next { s with
        thermal := { s.thermal with feedback := false }, lamps := l, freeCount := n })
    ∧ ∀ active, s.thermal.compressor = false →
      ∃ l n, exec (.runFeedbackChange active) s = .next { s with
        thermal := { s.thermal with feedback := active }, lamps := l, freeCount := n }

/-- R55, R58, R62: the start monitor's expiry sets COMPRESSOR_FAILED and switches the compressor off, whatever the minimum-on timer
shows; the minimum-off timer starts, and the thermal derate falls to 600 or to 0. A STARTING need is completed as STARTED. (The
minimum-on timer runs on after the switch-off: the model's choice, log entry 23.) R49 to R51: a hazard report that asks for the forced
mode in force changes nothing; one that asks for another enters it: the pursuit of a stage is given up on leaving NONE (a STARTING need
completed as STARTED), PURGE and SEALED switch the compressor off, COOL_FORCED switches it on unless it has failed or the minimum-off
timer runs, and the return to NONE sets the stage by the mode left (in the UNCONFIGURED start too, although R44 keeps the stage OFF there: the
model's choice, log entry 23). -/
def Obligations.StartMonitorExpires : Prop :=
  (∀ s : State, s.Running → s.thermal.monitor ≠ none → s.thermal.compressor = true →
    (s.thermal.need ≠ .starting →
      ∃ t, exec .compressorStartMonitorExpiry s = .next t
        ∧ t = { s with thermal := t.thermal, limit := t.limit, lamps := t.lamps, freeCount := t.freeCount }
        ∧ t.thermal = { s.thermal with
            compressorFailed := true, compressor := false, minOff := some 0, monitor := none, confirmed := false
            derate := if s.thermal.pump.failed then 0 else 600 }
        ∧ t.limit.thermalDerate = t.thermal.derate)
    ∧ ∀ need, s.thermal.need = .starting → s.permit.served = some need → need.purpose.isThermal = true → s.permit.queue = [] →
      ∃ t, exec .compressorStartMonitorExpiry s = .next t
        ∧ s.ClientFrame t ∧ t.conn = s.conn
        ∧ t.thermal = { s.thermal with
            compressorFailed := true, compressor := false, minOff := some 0, monitor := none, confirmed := false, need := .none
            derate := if s.thermal.pump.failed then 0 else 600 }
        ∧ t.permit.phase = .idle ∧ t.permit.served = none
        ∧ t.permit.lastHold = some ⟨need.purpose, .started, s.permit.heldAt, s.loader.uptime⟩)
  ∧ ∀ (w : Work) (mode : ForcedMode),
    (w.hazard.level.isAlarm = true ∧ mode = .sealed)
      ∨ (w.hazard.level = .preAlarm ∧ GasCause w.hazard.set ∧ mode = .purge)
      ∨ (w.hazard.level = .preAlarm ∧ ¬ GasCause w.hazard.set ∧ mode = .coolForced)
      ∨ ((w.hazard.level = .clear ∨ w.hazard.level = .watch) ∧ mode = .none) →
    let r := thermalHazardReport w
    (mode = w.thermal.forced → r = w)
    ∧ (mode ≠ w.thermal.forced →
        r.thermal.forced = mode ∧ r.hazard = w.hazard ∧ r.scan = w.scan ∧ r.conn = w.conn
        ∧ (w.thermal.forced = .none →
            r.thermal.need = .none ∧ r.thermal.wanted = none ∧ r.thermal.auxWait = false ∧ r.thermal.retry = none
              ∧ (∀ need, w.thermal.need = .starting → w.permit.served = some need → need.purpose.isThermal = true →
                  r.permit.lastHold = some ⟨need.purpose, .started, w.permit.heldAt, w.loader.uptime⟩))
        ∧ (mode = .purge ∨ mode = .sealed → r.thermal.compressor = false ∧ r.thermal.minOn = w.thermal.minOn
            ∧ (w.thermal.compressor = true → r.thermal.minOff = some 0 ∧ r.thermal.monitor = none)
            ∧ (w.thermal.compressor = false → r.thermal.minOff = w.thermal.minOff))
        ∧ (mode = .coolForced → w.thermal.compressor = true →
            r.thermal.compressor = true ∧ r.thermal.minOn = w.thermal.minOn ∧ r.thermal.monitor = w.thermal.monitor)
        ∧ (mode = .coolForced → w.thermal.compressor = false → w.thermal.compressorFailed = false → w.thermal.minOff = none →
            r.thermal.compressor = true ∧ r.thermal.minOn = some 0
              ∧ (w.thermal.feedback = false → r.thermal.monitor = some 0))
        ∧ (mode = .coolForced → w.thermal.compressor = false → w.thermal.compressorFailed = true ∨ w.thermal.minOff ≠ none →
            r.thermal.compressor = false ∧ r.thermal.minOff = w.thermal.minOff)
        ∧ (mode ≠ .none → r.thermal.stage = w.thermal.stage)
        ∧ (mode = .none → w.thermal.forced = .purge ∨ w.thermal.forced = .sealed → r.thermal.stage = .off)
        ∧ (mode = .none → w.thermal.forced = .coolForced →
            r.thermal.stage = if w.thermal.compressor = true then .cool2 else .circulate)
        ∧ (mode = .none → r.thermal.minOn = w.thermal.minOn))

/-- R54, R58: a tach pulse counts in its drive's window, saturating at 65535. At a window end every drive keeps its rate and begins a
window; the fifth low window in a row fails the drive, a window with 10 pulses or one during which the duty was below 16 ends a run of
low ones, and a failed pump makes the thermal derate 0. -/
def Obligations.TachMonitors : Prop :=
  (∀ s : State, s.Running →
    (∃ l n, exec (.tachPulse .pump) s = .next { s with
      thermal := { s.thermal with pump := { s.thermal.pump with pulses := min 65535 (s.thermal.pump.pulses + 1) } }
      lamps := l, freeCount := n })
    ∧ (∃ l n, exec (.tachPulse .fan1) s = .next { s with
      thermal := { s.thermal with fan1 := { s.thermal.fan1 with pulses := min 65535 (s.thermal.fan1.pulses + 1) } }
      lamps := l, freeCount := n })
    ∧ (∃ l n, exec (.tachPulse .fan2) s = .next { s with
      thermal := { s.thermal with fan2 := { s.thermal.fan2 with pulses := min 65535 (s.thermal.fan2.pulses + 1) } }
      lamps := l, freeCount := n }))
  ∧ ∀ s : State, s.Running →
    ∃ t, exec .tachWindowEnd s = .next t
      ∧ t = { s with thermal := t.thermal, limit := t.limit, lamps := t.lamps, freeCount := t.freeCount }
      ∧ t.thermal = { s.thermal with
          tachTimer := some 0, pump := t.thermal.pump, fan1 := t.thermal.fan1, fan2 := t.thermal.fan2, derate := t.thermal.derate }
      ∧ (∀ p ∈ [(s.thermal.pump, t.thermal.pump), (s.thermal.fan1, t.thermal.fan1), (s.thermal.fan2, t.thermal.fan2)],
          p.2.rate = p.1.pulses ∧ p.2.pulses = 0 ∧ p.2.duty = p.1.duty ∧ p.2.dutySet = p.1.dutySet
            ∧ (p.2.low = true ↔ p.1.duty < 16)
            ∧ (p.1.lowCount < 5 → p.1.low = false → p.1.pulses < 10 → p.2.lowCount = p.1.lowCount + 1)
            ∧ (p.1.lowCount < 5 → p.1.low = true ∨ 10 ≤ p.1.pulses → p.2.lowCount = 0)
            ∧ (p.1.lowCount = 5 → p.2.lowCount = 5)
            ∧ (p.2.failed = true ↔ p.1.failed = true ∨ p.2.lowCount = 5))
      ∧ (t.thermal.pump.failed = true → t.thermal.derate = 0)
      ∧ t.limit.thermalDerate = t.thermal.derate

/-- R53: a PWM period takes the duties set; a period is 64 × M + 8 × N clocks long, and a drive of duty 0 is never high, and one of duty
63 is high but for the last tick, of M clocks. R49, R52, R56, R57, R59: every step keeps the forced mode at what the hazard level and set
ask for, the duties set, the on/off outputs and the announced demand at the row in force, the compressor off where the row does not want
it or it has failed, and AUX_WAIT, the wanted stage and the retry timer at the need state. -/
def Obligations.PwmPeriod : Prop :=
  (∀ s : State, s.Running →
    ∃ l n, exec .pwmPeriodStart s = .next { s with
      thermal := { s.thermal with
        pump := { s.thermal.pump with
          duty := s.thermal.pump.dutySet, low := s.thermal.pump.low || decide (s.thermal.pump.dutySet < 16) }
        fan1 := { s.thermal.fan1 with
          duty := s.thermal.fan1.dutySet, low := s.thermal.fan1.low || decide (s.thermal.fan1.dutySet < 16) }
        fan2 := { s.thermal.fan2 with
          duty := s.thermal.fan2.dutySet, low := s.thermal.fan2.low || decide (s.thermal.fan2.dutySet < 16) } }
      lamps := l, freeCount := n })
  ∧ (∀ m n d : Nat, n ≤ 7 → d ≤ 63 →
      highClocks m n 64 = 64 * m + 8 * n ∧ highClocks m n 63 + m = 64 * m + 8 * n
        ∧ highClocks m n d = d * m + (d / 8) * n + min n (d % 8))
  ∧ ∀ s t : State, s.ThermalFollows → step s = .next t → t.ThermalFollows

/-- R61: at the retry timer's expiry the ladder is evaluated again. Where it still gives the wanted stage and no timer of R47 holds the
step back, a new need is placed, in every state of the permit: it waits in the queue, opens an ask, or, where no station is awaited, is
held and checked at once. Where it gives another result, the need disappears with its wanted stage and AUX_WAIT, and the result is handled
under R46: the stage is held, a free step is taken, or a new need is placed as above. (Where R47 holds the step back, and where the
summary gives no evaluation, the need disappears too: the model's choice, log entry 23.) R45: the ladder's table. R46, R47: a
publication's evaluation, in every state of the permit, holds the stage, takes a free step with the drives of the new row, or places a
need for a step that needs the permit; a wish that has changed cancels the need that waits for the old one. R150: where the queue already
holds a need of the purpose, that one stands and nothing is added. What the connection unit does to the permit at a publication is left
out: the publication clauses are for an event at which it keeps its state. (No round is in flight before the start, R190, so that they are
for a part that runs.) The check at once is stated for a queue that holds no other need: an older one would have opened the ask before
(R152). -/
def Obligations.AuxRetry : Prop :=
  let lowers (a b : Stage) : Prop :=
    (a, b) ∈ [(.off, .circulate), (.circulate, .off), (.cool1, .circulate), (.cool2, .cool1), (.heat, .off)]
  let needsPermit (a b : Stage) : Prop :=
    (a, b) ∈ [((.circulate, .cool1) : Stage × Stage), (.cool1, .cool2), (.off, .heat), (.circulate, .heat)]
  let purposeOf (x : Stage) : Purpose := if x = .heat then .heatStage else .coolStage
  let demand (x : Stage) : Nat := match x with | .off => 0 | .circulate => 2 | .cool1 => 18 | .cool2 => 30 | .heat => 12
  let held (s : State) (want : Stage) : Prop :=
    (s.thermal.stage = .cool1 ∧ want = .circulate ∧ s.thermal.compressor = true ∧ s.thermal.minOn ≠ none)
      ∨ (s.thermal.stage = .circulate ∧ want = .cool1 ∧ s.thermal.compressorFailed = false ∧ s.thermal.minOff ≠ none)
  let kept (s : State) : List Need :=
    s.permit.queue.filter fun n => decide (s.thermal.need ≠ .waiting ∨ s.thermal.wanted.map purposeOf ≠ some n.purpose)
  let asks (s : State) : Prop := s.permit.phase = .idle ∧ s.permit.deferred = [] ∧ s.permit.owed = .none ∧ 1 ≤ s.permit.free
    ∧ s.peers.service = .inService ∧ s.line.degraded = false ∧ s.line.duplicate = false ∧ s.loader.listenOnly = false
  let awaited (s : State) : Prop := awaitedOf s.peers.entries ≠ []
  let dropped (s t : State) : Prop :=
    t.thermal = { s.thermal with need := .none, wanted := none, auxWait := false, retry := none, derate := t.thermal.derate }
      ∧ t.permit.queue = kept s
  let waiting (s t : State) (want : Stage) : Prop :=
    t.thermal = { s.thermal with
      need := .waiting, wanted := some want, auxWait := true, retry := none, derate := t.thermal.derate }
  let placed (s t : State) (want : Stage) : Prop :=
    let need : Need := ⟨purposeOf want, demand want - demand s.thermal.stage⟩
    let listed : Prop := ∃ n ∈ kept s, n.purpose = need.purpose
    (listed → waiting s t want ∧ t.permit.queue = kept s)
      ∧ (¬ listed → ¬ asks s → waiting s t want ∧ t.permit.queue = kept s ++ [need])
      ∧ (¬ listed → asks s → awaited s →
          waiting s t want ∧ t.permit.phase = .asking ∧ t.permit.queue = kept s ++ [need]
            ∧ t.permit.tag = (s.permit.tag + 1) % 16 ∧ t.permit.awaited = awaitedOf s.peers.entries ∧ t.permit.deferredBy = [])
      ∧ (asks s → ¬ awaited s → kept s = [] →
          ∃ check, t.thermal.lastAux = some check ∧ check.own = demand want ∧ check.limit = s.loader.cfg.auxLimit
            ∧ check.peerSum = sumOf (s.peers.entries.map fun e =>
                if e.kind = .container ∧ (e.presence = .present ∨ e.presence = .silent) then (e.status.map (·.aux)).getD 0 else 0)
            ∧ (check.pass = true ↔ check.peerSum + check.own ≤ check.limit)
            ∧ (check.pass = true → t.thermal.stage = want ∧ t.thermal.wanted = none ∧ t.thermal.auxWait = false ∧ t.RowInForce)
            ∧ (check.pass = false → t.thermal.stage = s.thermal.stage ∧ t.thermal.need = .retry ∧ t.thermal.retry = some 0
                ∧ t.thermal.wanted = some want ∧ t.thermal.auxWait = true))
  let handled (s t : State) (want : Stage) : Prop :=
    (want = s.thermal.stage ∨ held s want → dropped s t)
      ∧ (¬ held s want → lowers s.thermal.stage want →
          t.thermal.stage = want ∧ t.thermal.need = .none ∧ t.thermal.wanted = none ∧ t.thermal.auxWait = false
            ∧ t.thermal.retry = none ∧ t.permit.queue = kept s ∧ t.RowInForce)
      ∧ (¬ held s want → needsPermit s.thermal.stage want → placed s t want)
  (∀ (lo hi : Int) (inlet : Sensor),
    let frozen (limit : Int) : Prop := ∃ v, inlet.value = some v ∧ v ≤ limit
    (280 ≤ hi → ladder .off lo hi inlet = .circulate) ∧ (hi < 280 → lo ≤ 50 → ladder .off lo hi inlet = .heat)
      ∧ (hi < 280 → 50 < lo → frozen 30 → ladder .off lo hi inlet = .circulate)
      ∧ (hi < 280 → 50 < lo → ¬ frozen 30 → ladder .off lo hi inlet = .off)
      ∧ (320 ≤ hi → ladder .circulate lo hi inlet = .cool1) ∧ (hi < 250 → lo ≤ 50 → ladder .circulate lo hi inlet = .heat)
      ∧ (hi < 250 → 50 < lo → ¬ frozen 50 → ladder .circulate lo hi inlet = .off)
      ∧ (hi < 250 → 50 < lo → frozen 50 → ladder .circulate lo hi inlet = .circulate)
      ∧ (250 ≤ hi → hi < 320 → ladder .circulate lo hi inlet = .circulate)
      ∧ (360 ≤ hi → ladder .cool1 lo hi inlet = .cool2) ∧ (hi < 290 → ladder .cool1 lo hi inlet = .circulate)
      ∧ (290 ≤ hi → hi < 360 → ladder .cool1 lo hi inlet = .cool1)
      ∧ (hi < 330 → ladder .cool2 lo hi inlet = .cool1) ∧ (330 ≤ hi → ladder .cool2 lo hi inlet = .cool2)
      ∧ (100 ≤ lo ∨ 280 ≤ hi → ladder .heat lo hi inlet = .off)
      ∧ (lo < 100 → hi < 280 → ladder .heat lo hi inlet = .heat))
  ∧ (∀ s : State,
      (∀ x lo hi, s.scan.summary = some x → x.tMin = some lo → x.tMax = some hi →
        evaluateLadder (Work.start s) = some (ladder s.thermal.stage lo.value hi.value s.analog.inlet))
      ∧ ((∀ x, s.scan.summary = some x → x.tMin = none ∨ x.tMax = none) → evaluateLadder (Work.start s) = none))
  ∧ (∀ s : State, s.Running → s.thermal.retry ≠ none → s.thermal.need = .retry → s.thermal.forced = .none → s.RowInForce →
      (evaluateLadder (Work.start s) = none →
        ∃ t, exec .retryTimerExpiry s = .next t
          ∧ t = { s with thermal := t.thermal, limit := t.limit, lamps := t.lamps, freeCount := t.freeCount }
          ∧ dropped s t)
      ∧ ∀ want, evaluateLadder (Work.start s) = some want → s.hazard.level.isAlarm = false →
        ∃ t, exec .retryTimerExpiry s = .next t
          ∧ (s.thermal.wanted = some want → held s want → dropped s t)
          ∧ (s.thermal.wanted = some want → ¬ held s want → placed s t want)
          ∧ (s.thermal.wanted ≠ some want → handled s t want)
          ∧ (¬ asks s ∨ held s want ∨ (s.thermal.wanted ≠ some want ∧ ¬ needsPermit s.thermal.stage want) →
              t = { s with
                thermal := t.thermal, limit := t.limit, permit := { s.permit with queue := t.permit.queue }
                lamps := t.lamps, freeCount := t.freeCount })
          ∧ (awaited s ∨ s.permit.queue = [] → s.ClientFrame t ∧ t.conn = s.conn))
  ∧ ∀ (c : Instr) (s t : State) (x : Summary) (lo hi : TempAt), (∃ r, c = .moduleReport r) ∨ (∃ n, c = .answerWindowExpiry n) →
      s.Running → exec c s = .next t → s.scan.round ≠ none → t.scan.round = none → t.scan.summary = some x →
      x.tMin = some lo → x.tMax = some hi → t.hazard.set = s.hazard.set → s.hazard.level.isAlarm = false →
      t.conn.phase = s.conn.phase → s.RowInForce →
      let want := ladder s.thermal.stage lo.value hi.value s.analog.inlet
      (s.thermal.forced ≠ .none ∨ s.thermal.need = .starting → t.thermal = s.thermal)
      ∧ (s.thermal.forced = .none → s.thermal.need = .none → want = s.thermal.stage ∨ held s want → t.thermal = s.thermal)
      ∧ (s.thermal.forced = .none → s.thermal.need = .waiting ∨ s.thermal.need = .retry → s.thermal.wanted = some want →
          t.thermal = s.thermal)
      ∧ (s.thermal.forced = .none → s.NeedFollows → s.thermal.need ≠ .starting → s.thermal.wanted ≠ some want →
          (s.thermal.need ≠ .none ∨ (want ≠ s.thermal.stage ∧ ¬ held s want)) → handled s t want)

/-! ## Hazard -/

/-- R65: a smoke loop's input moving to another band starts its persistence timer where the band gives another state, lets it run on
between bands of one state, and stops it where the band gives the state held; at the timer's expiry the loop takes the state of its
band and its members of the indication set follow. -/
def Obligations.SmokeLoop : Prop :=
  ∀ (loop : DetectorLoop) (s : State), s.Running →
    (∀ mv, ∃ l n, exec (.smokeLoopBandChange loop mv) s = .next { s with
      hazard := s.hazard.onLoop loop fun x =>
        { x with
          band := if mv < 400 then .short else if mv < 1200 then .alarmBand else if mv < 2800 then .quiescent else .opened
          timer :=
            if (bandOf mv).state = x.state then none
            else if (bandOf mv).state = x.band.state ∧ x.timer ≠ none then x.timer
            else some 0 }
      lamps := l, freeCount := n })
    ∧ ((s.hazard.loop loop).timer ≠ none →
      ∃ t, exec (.smokeLoopPersistenceExpiry loop) s = .next t ∧ s.HazardFrame t
        ∧ (t.hazard.loop loop).state = (s.hazard.loop loop).band.state ∧ (t.hazard.loop loop).timer = none
        ∧ (∀ i, i ∈ t.hazard.set ↔
            (i = smokeMember loop ∧ (s.hazard.loop loop).band = .alarmBand)
              ∨ (i = smokeFaultMember loop ∧ ((s.hazard.loop loop).band = .short ∨ (s.hazard.loop loop).band = .opened))
              ∨ (i ≠ smokeMember loop ∧ i ≠ smokeFaultMember loop ∧ i ∈ s.hazard.set))
        ∧ t.hazard.level = (if t.hazard.set = s.hazard.set then s.hazard.level else s.hazard.levelAfter t.hazard.set))

/-- R66, R78, R80, R81, R195: a contact terminal's change is followed, and settles only while it stands at another level than the one
taken. A contact that has settled is taken at its terminal's level: the door and HOLD govern the countdown and change nothing else, the
call point is MANUAL, and DISCHARGED becoming active moves a level up to RELEASING to DISCHARGED and withdraws RELEASE; becoming inactive,
before the first evaluation, or at DISCHARGED and above it is taken and nothing else changes. The key switch that settles inactive, or
before the loader finishes (then without a turn: the model's choice, log entry 24), is taken at its level and nothing else changes, so that a
later turn finds it inactive; its turn is stated with maintenance clear. -/
def Obligations.Contacts : Prop :=
  (∀ (active : Bool) (s : State), s.Running →
    let moved (c : ContactInput) : ContactInput :=
      ⟨active, c.taken, if active = c.taken then none else if c.timer.isSome then c.timer else some 0⟩
    (∃ l n, exec (.contactTerminalChange .callPoint active) s = .next { s with
      hazard := { s.hazard with callPoint := moved s.hazard.callPoint }, lamps := l, freeCount := n })
    ∧ (∃ l n, exec (.contactTerminalChange .door active) s = .next { s with
      hazard := { s.hazard with door := moved s.hazard.door }, lamps := l, freeCount := n })
    ∧ (∃ l n, exec (.contactTerminalChange .hold active) s = .next { s with
      hazard := { s.hazard with hold := moved s.hazard.hold }, lamps := l, freeCount := n })
    ∧ (∃ l n, exec (.contactTerminalChange .discharged active) s = .next { s with
      hazard := { s.hazard with dischargedInput := moved s.hazard.dischargedInput }, lamps := l, freeCount := n })
    ∧ ∃ l n, exec (.contactTerminalChange .keySwitch active) s = .next { s with
      key := moved s.key, lamps := l, freeCount := n })
  ∧ ∀ s : State,
    (s.hazard.door.timer ≠ none →
      ∃ l n, exec (.contactInputSettled .door) s = .next { s with
        hazard := { s.hazard with door := ⟨s.hazard.door.terminal, s.hazard.door.terminal, none⟩ }, lamps := l, freeCount := n })
    ∧ (s.hazard.hold.timer ≠ none →
      ∃ l n, exec (.contactInputSettled .hold) s = .next { s with
        hazard := { s.hazard with hold := ⟨s.hazard.hold.terminal, s.hazard.hold.terminal, none⟩ }, lamps := l, freeCount := n })
    ∧ (s.hazard.callPoint.timer ≠ none →
      ∃ t, exec (.contactInputSettled .callPoint) s = .next t ∧ s.HazardFrame t
        ∧ t.hazard.callPoint = ⟨s.hazard.callPoint.terminal, s.hazard.callPoint.terminal, none⟩
        ∧ t.hazard.set = setMember .manual s.hazard.callPoint.terminal s.hazard.set
        ∧ t.hazard.level = (if t.hazard.set = s.hazard.set then s.hazard.level else s.hazard.levelAfter t.hazard.set))
    ∧ (s.hazard.dischargedInput.timer ≠ none →
      ∃ t, exec (.contactInputSettled .discharged) s = .next t ∧ s.HazardFrame t
        ∧ t.hazard.dischargedInput = ⟨s.hazard.dischargedInput.terminal, s.hazard.dischargedInput.terminal, none⟩
        ∧ t.hazard.set = s.hazard.set
        ∧ (s.hazard.dischargedInput.terminal = true → s.hazard.evaluated = true → s.hazard.level.code ≤ 4 →
            t.hazard.level = .discharged ∧ t.hazard.release = false ∧ t.hazard.confirm = none
              ∧ t.loader.writeStore = some ⟨some .discharged, t.hazard.firstCause, s.loader.uptime⟩)
        ∧ (s.hazard.dischargedInput.terminal = false ∨ 5 ≤ s.hazard.level.code →
            t.hazard.level = s.hazard.level ∧ t.hazard.release = s.hazard.release))
    ∧ (s.hazard.dischargedInput.timer ≠ none →
        s.hazard.dischargedInput.terminal = false ∨ s.hazard.evaluated = false ∨ 5 ≤ s.hazard.level.code →
      ∃ l n, exec (.contactInputSettled .discharged) s = .next { s with
        hazard := { s.hazard with
          dischargedInput := ⟨s.hazard.dischargedInput.terminal, s.hazard.dischargedInput.terminal, none⟩ }
        lamps := l, freeCount := n })
    ∧ (s.key.timer ≠ none → s.key.terminal = false ∨ s.key.taken = true ∨ ¬ s.Running →
      ∃ l n, exec (.contactInputSettled .keySwitch) s = .next { s with
        key := ⟨s.key.terminal, s.key.terminal, none⟩, lamps := l, freeCount := n })

/-- R68: HEAT_HIGH enters the set at a publication with T_max of 65.0 °C or more, leaves it at one below 60.0 °C, and keeps its presence
at any other; it is absent at reset, and no command puts it there but one that publishes such a summary. So at every report or answer window
expiry that completes a round with a summary; the other members stay, and the level rises as the set then asks (R72). -/
def Obligations.HeatHighFollowsSummaries : Prop :=
  (∀ w : Work, mayPublish w.count w.scan = true →
    (∀ t, (buildSummary w.count w.scan).tMax = some t →
      (.heatHigh ∈ (publish w).hazard.set ↔ 650 ≤ t.value ∨ (600 ≤ t.value ∧ .heatHigh ∈ w.hazard.set)))
    ∧ ((buildSummary w.count w.scan).tMax = none → (.heatHigh ∈ (publish w).hazard.set ↔ .heatHigh ∈ w.hazard.set)))
  ∧ .heatHigh ∉ State.reset.hazard.set
  ∧ (∀ (c : Instr) (s t : State), .heatHigh ∉ s.hazard.set → exec c s = .next t → .heatHigh ∈ t.hazard.set →
      ∃ x, t.scan.summary.bind (·.tMax) = some x ∧ 650 ≤ x.value)
  ∧ ∀ (c : Instr) (s t : State) (x : Summary), (∃ r, c = .moduleReport r) ∨ (∃ n, c = .answerWindowExpiry n) →
      exec c s = .next t → s.scan.round ≠ none → t.scan.round = none → t.scan.summary = some x →
      (∀ y, x.tMax = some y → (.heatHigh ∈ t.hazard.set ↔ 650 ≤ y.value ∨ (600 ≤ y.value ∧ .heatHigh ∈ s.hazard.set)))
        ∧ (x.tMax = none → (.heatHigh ∈ t.hazard.set ↔ .heatHigh ∈ s.hazard.set))
        ∧ (∀ i, i ≠ .heatHigh → (i ∈ t.hazard.set ↔ i ∈ s.hazard.set))
        ∧ t.hazard.level = (if t.hazard.set = s.hazard.set then s.hazard.level else s.hazard.levelAfter t.hazard.set)

/-- R69: at the sample timer's expiry every module's maximum of the latest summary goes into its ring of three, and HEAT_RISE is present
exactly when some ring of three full samples shows a rise of 2.0 °C or more; the level then rises as the set asks (R72). -/
def Obligations.HeatRiseSample : Prop :=
  ∀ s : State, s.hazard.sampleTimer ≠ none →
    ∃ t, exec .heatRiseSample s = .next t ∧ s.HazardFrame t ∧ t.hazard.sampleTimer = some 0
      ∧ t.hazard.rings =
          mapFrom (fun i ring =>
            if i < s.loader.cfg.moduleCount then
              (if ring.length < 3 then ring else ring.tail) ++ [(s.scan.summary.map (·.maxima)).getD [] |>.getD i none]
            else ring) 0 s.hazard.rings
      ∧ (.heatRise ∈ t.hazard.set ↔ ∃ old mid new, [some old, mid, some new] ∈ t.hazard.rings ∧ 20 ≤ new - old)
      ∧ (∀ i, i ≠ .heatRise → (i ∈ t.hazard.set ↔ i ∈ s.hazard.set))
      ∧ t.hazard.level = (if t.hazard.set = s.hazard.set then s.hazard.level else s.hazard.levelAfter t.hazard.set)

/-- R72, R81, R86: the first evaluation: from a level other than LOCKOUT the level rises as the set asks, and an active DISCHARGED input
moves it to DISCHARGED; from LOCKOUT it becomes ALARM when the image's level is ALARM, the ALARM condition holds and DISCHARGED is
inactive, and stays otherwise. -/
def Obligations.FirstEvaluation : Prop :=
  ∀ s : State, s.hazard.firstEval ≠ none →
    ∃ t, exec .hazardFirstEvaluation s = .next t ∧ s.HazardFrame t ∧ t.hazard.evaluated = true ∧ t.hazard.firstEval = none
      ∧ t.hazard.set = s.hazard.set
      ∧ (s.hazard.level.code ≤ 2 → s.hazard.dischargedInput.taken = false →
          t.hazard.level = HazardState.levelAfter { s.hazard with evaluated := true } s.hazard.set)
      ∧ (s.hazard.level.code ≤ 2 → s.hazard.dischargedInput.taken = true → t.hazard.level = .discharged)
      ∧ (s.hazard.level = .lockout → (∃ i, s.hazard.image = some i ∧ i.content.level = some .alarm) →
          alarmCondition s.hazard.set = true → s.hazard.dischargedInput.taken = false →
          t.hazard.level = .alarm ∧ t.hazard.countdown = s.loader.cfg.releaseTime * 1000)
      ∧ (s.hazard.level = .lockout →
          (¬ ∃ i, s.hazard.image = some i ∧ i.content.level = some .alarm) ∨ alarmCondition s.hazard.set = false
            ∨ s.hazard.dischargedInput.taken = true → t.hazard.level = .lockout)

/-- R70, R72 to R74, R76, R77, R83, R87, R88: every change of level, whatever brings it about but a start. Each command changes the level as
`Instr.ChangesLevel` says, and with no other cause: a detector's report raises it, with the lowest member that completed the condition; the
timers, DISCHARGED, the first evaluation, the countdown's end and the key's turn move it with their own causes. What belongs to the same
event then follows: the history's entry, the episode first cause, the HAZARD frame in the urgent slot (behind one that is being sent), the
lockout write of ALARM and above, the first-cause records of PRE_ALARM and ALARM, and the timers of the level entered, from 0. (That the
first evaluation takes DISCHARGED last, the three reports of a supervision that clears, and the two rows of the key's turn are the model's
choices, log entries 24, 8 and 19.)
R73, R74, R76, R88: the escalation, fall-back and quiet timers move the level with their causes, append the change to the history
of at most 16 entries, and place its HAZARD frame. R79, R80: the countdown's end in ALARM drives RELEASE and makes the level RELEASING,
or DISCHARGED with RELEASE withdrawn where the DISCHARGED input is active already; the confirmation timer's expiry sets RELEASE_FAULT
and nothing else. -/
def Obligations.LevelTimers : Prop :=
  (∀ s : State,
    let moved (level : HazardLevel) (cause : Cause) (t : State) : Prop :=
      s.HazardFrame t ∧ t.hazard.level = level ∧ t.hazard.set = s.hazard.set
        ∧ t.hazard.history =
            (if s.hazard.history.length < 16 then s.hazard.history else s.hazard.history.tail)
              ++ [⟨s.hazard.level, level, cause, s.loader.uptime⟩]
        ∧ t.hazard.fallBack = none ∧ t.hazard.release = false
        ∧ (t.line.urgent = some (hazardFrameOf t.hazard) ∨ t.line.urgentNext = some (hazardFrameOf t.hazard))
    (s.hazard.escalation ≠ none → ∃ t, exec .escalationTimerExpiry s = .next t ∧ moved .alarm .escalation t
      ∧ t.hazard.countdown = s.loader.cfg.releaseTime * 1000
      ∧ t.loader.writeStore = some ⟨some .alarm, t.hazard.firstCause, s.loader.uptime⟩)
    ∧ (s.hazard.fallBack ≠ none → ∃ t, exec .fallBackTimerExpiry s = .next t ∧ moved .watch .fallBack t
      ∧ (t.hazard.quiet = some 0 ↔ s.hazard.set = []) ∧ t.loader.writeStore = s.loader.writeStore)
    ∧ (s.hazard.quiet ≠ none → ∃ t, exec .quietTimerExpiry s = .next t ∧ moved .clear .fallBack t
      ∧ t.hazard.firstCause = .none ∧ t.loader.writeStore = s.loader.writeStore))
  ∧ (∀ s : State,
    (s.hazard.level = .alarm → s.hazard.hold.taken = false → s.hazard.door.taken = false →
      ∃ t, exec .countdownEnd s = .next t ∧ s.HazardFrame t
        ∧ (s.hazard.dischargedInput.taken = false →
            t.hazard.level = .releasing ∧ t.hazard.release = true ∧ t.hazard.confirm = some 0)
        ∧ (s.hazard.dischargedInput.taken = true →
            t.hazard.level = .discharged ∧ t.hazard.release = false ∧ t.hazard.confirm = none)
        ∧ t.loader.writeStore = some ⟨some t.hazard.level, s.hazard.firstCause, s.loader.uptime⟩)
    ∧ (s.hazard.hold.taken = true ∨ s.hazard.door.taken = true →
      ∃ l n, exec .countdownEnd s = .next { s with lamps := l, freeCount := n })
    ∧ (s.hazard.confirm ≠ none →
      ∃ l n, exec .dischargeConfirmationExpiry s = .next { s with
        hazard := { s.hazard with confirm := none, releaseFault := true }, lamps := l, freeCount := n }))
  ∧ ∀ (c : Instr) (s t : State), c.starts = false → s.hazard.LevelTimersFollow → exec c s = .next t →
    let set := if c.reportsOnce s = true then some t.hazard.set else none
    let tMax := t.scan.summary.bind (·.tMax)
    ∃ entries, c.ChangesLevel s t entries ∧ s.LevelMoved t entries set
      ∧ (c.reportsOnce s = true → s.hazard.TimersAfter t.hazard entries)
      ∧ (c.turnsKey = false →
          FirstCauseLatched .preAlarm s.hazard.firstPre t.hazard.firstPre entries set tMax s.loader.uptime
          ∧ FirstCauseLatched .alarm s.hazard.firstAlarm t.hazard.firstAlarm entries set tMax s.loader.uptime
          ∧ (entries ≠ [] → (∀ e ∈ entries, e.new.isAlarm = false) → t.loader.writeStore = s.loader.writeStore))

/-! ## The lockout record and maintenance clear -/

/-- R83, R84: the port starts the write that waits, its slot and sequence number fixed from the image; the retry timer's expiry
requests the failed content again. R83, R84, R191: a write that the memory acknowledges and that reads back as written before 10 ms have
passed puts its bytes into its slot and nothing else into the memory, becomes the image, and clears LOCKOUT_WRITE_FAULT; any other end
sets LOCKOUT_WRITE_FAULT, keeps the image, and starts the retry timer where no newer request waits. What a slot holds after a write is
given with the event (log entry 12). -/
def Obligations.LockoutWrites : Prop :=
  (∀ s : State,
    (∀ content, s.Running → s.loader.writeStore = some content → s.loader.writing = none →
      ∃ l n, exec .lockoutWriteStart s = .next { s with
        loader := { s.loader with
          writeStore := none
          writeTimer := some 0
          writing := some (match s.hazard.image with
            | some i => ⟨!i.second, (i.seq + 1) % 3, content⟩
            | none => ⟨false, 0, content⟩) }
        lamps := l, freeCount := n })
    ∧ ∀ content, s.hazard.retry ≠ none → s.hazard.retryContent = some content →
      ∃ l n, exec .lockoutRetryExpiry s = .next { s with
        loader := { s.loader with writeStore := some content }
        hazard := { s.hazard with retry := none, retryContent := none }
        lamps := l, freeCount := n })
  ∧ ∀ (acknowledged : Bool) (held : List Byte) (ms : Nat) (s : State) (x : SlotWrite), s.MemoryCanonical →
    s.loader.writing = some x → s.loader.writeTimer = some ms → held.length = 16 →
    (acknowledged = true → held = slotBytes x → ms < 10 → s.conn.phase ≠ .opened →
      ∃ t, exec (.lockoutWriteCompletion acknowledged held) s = .next t
        ∧ t = { s with
            loader := { s.loader with writing := none, writeTimer := none }
            hazard := { s.hazard with
              image := some ⟨x.second, x.seq, x.content⟩, writeFault := false, retry := none, retryContent := none }
            mem := t.mem, lamps := t.lamps, freeCount := t.freeCount }
        ∧ slotOf t.mem x.second = slotBytes x
        ∧ ∀ a, a < slotAddress x.second ∨ slotAddress x.second + 16 ≤ a → Memory.read t.mem a = Memory.read s.mem a)
    ∧ (acknowledged = false ∨ held ≠ slotBytes x ∨ 10 ≤ ms →
      ∃ t, exec (.lockoutWriteCompletion acknowledged held) s = .next t
        ∧ t = { s with
            loader := { s.loader with writing := none, writeTimer := none }
            hazard := { s.hazard with
              writeFault := true
              retry := if s.loader.writeStore = none then some 0 else s.hazard.retry
              retryContent := if s.loader.writeStore = none then some x.content else s.hazard.retryContent }
            mem := t.mem, lamps := t.lamps, freeCount := t.freeCount }
        ∧ slotOf t.mem x.second = held
        ∧ ∀ a, a < slotAddress x.second ∨ slotAddress x.second + 16 ≤ a → Memory.read t.mem a = Memory.read s.mem a)

/-- R82, R85, R191: the bytes of a slot give back the record they were written from; and once a lockout write has ended with success,
the lockout area of the memory gives the record written as its image, whatever the other slot holds, when the other slot held the image
before or held nothing valid. -/
def Obligations.LockoutSurvivesReset : Prop :=
  (∀ (second : Bool) (x : SlotWrite), x.seq ≤ 2 → x.content.uptime ≤ 4294967295 →
    (x.content.level = none ∨ x.content.level = some .alarm ∨ x.content.level = some .releasing
      ∨ x.content.level = some .discharged) →
      decodeSlot second (slotBytes x) = some ⟨second, x.seq, x.content⟩)
  ∧ ∀ (s t : State) (content : LockoutContent) (ms : Nat), s.MemoryCanonical → imageOf s.mem = s.hazard.image →
    s.loader.writing = some (match s.hazard.image with
      | some i => ⟨!i.second, (i.seq + 1) % 3, content⟩
      | none => ⟨false, 0, content⟩) →
    s.loader.writeTimer = some ms → ms < 10 →
    (content.level = none ∨ content.level = some .alarm ∨ content.level = some .releasing ∨ content.level = some .discharged) →
    content.uptime ≤ 4294967295 →
    (∀ x, s.loader.writing = some x → exec (.lockoutWriteCompletion true (slotBytes x)) s = .next t) →
      imageOf t.mem = t.hazard.image ∧ ∃ i, t.hazard.image = some i ∧ i.content = content

/-- R19, R56, R90, R91, R183, R195: the key's turn is one maintenance clear (either of two rows brings the turn about: the model's choice,
log entry 19): it reaches the scan unit, whose modules return to NORMAL with their channels GOOD and their error-hold records empty, or
stand re-admitted where they are LOST; the thermal unit, whose faults end and whose cooling stage without its compressor goes back to
CIRCULATE; the hazard unit, which ignores it while an indication is present; and the connection unit. A latched level falls to CLEAR, or
to WATCH where a fault is present, RELEASE is withdrawn, and an erase of the lockout record is requested (its cause is NONE: the model's
choice, log entry 24). R183: a LOCKED unit becomes OPEN where the clear removes its last lock reason (FAILURES at the clear, HAZARD with the
level's fall), and goes on from there only as R173 allows; it stays LOCKED where DUPLICATE stands, or HAZARD while the hazard unit ignores the
clear. R50, R56: in COOL_FORCED a compressor whose failure is cleared is switched on at the clear, with its minimum-on timer and its start
monitor (or confirmed at once, where the run feedback is active already: the model's choice, log entry 23), unless its minimum-off timer
runs. -/
def Obligations.MaintenanceClears : Prop :=
  ∀ (c : Instr) (s : State), c = .maintenanceClear ∨ c = .contactInputSettled .keySwitch → s.Running →
    s.key.timer ≠ none → s.key.terminal = true → s.key.taken = false →
    ∃ t, exec c s = .next t
      ∧ t.key = ⟨true, true, none⟩
      ∧ t.scan.modules.length = s.scan.modules.length
      ∧ (∀ (i : Nat) (m m' : ModuleRecord), s.scan.modules[i]? = some m → t.scan.modules[i]? = some m' →
          (m.check ≠ .lost → m' = { m with
            check := .normal, channels := List.replicate 20 .good, subst := none, disagree := 0, search := 0, errorHold := none })
          ∧ (m.check = .lost → m' = { m with errorHold := none, readmit := true }))
      ∧ t.scan.visibilityLost = visibilityLostOf s.loader.cfg.moduleCount t.scan.modules
      ∧ t.thermal.compressorFailed = false ∧ t.thermal.pump.failed = false ∧ t.thermal.fan1.failed = false
      ∧ t.thermal.fan2.failed = false
      ∧ t.thermal.pump.lowCount = 0 ∧ t.thermal.fan1.lowCount = 0 ∧ t.thermal.fan2.lowCount = 0
      ∧ (s.thermal.forced = .none → s.thermal.stage = .cool1 ∨ s.thermal.stage = .cool2 → s.thermal.compressor = false →
          t.thermal.stage = .circulate ∧ t.thermal.need = .none ∧ t.thermal.wanted = none ∧ t.thermal.auxWait = false)
      ∧ (s.hazard.level = .preAlarm → s.thermal.forced = .coolForced → s.thermal.need = .none → s.thermal.compressorFailed = true →
          s.thermal.compressor = false →
          (s.thermal.minOff = none →
            t.thermal.compressor = true ∧ t.thermal.minOn = some 0 ∧ t.thermal.confirmed = s.thermal.feedback
              ∧ t.thermal.monitor = (if s.thermal.feedback = true then none else some 0))
          ∧ (s.thermal.minOff ≠ none → t.thermal.compressor = false ∧ t.thermal.minOff = s.thermal.minOff))
      ∧ (s.Configured → t.conn.failures = 0 ∧ t.conn.locks.failures = false)
      ∧ (s.Configured → s.conn.phase = .locked →
          let indicated : Prop := ∃ i ∈ s.hazard.set, i.isIndication = true
          let hazardLifts : Prop := s.hazard.level.isAlarm = true ∧ ¬ indicated
          (s.conn.locks.duplicate = true ∨ (s.conn.locks.hazard = true ∧ ¬ hazardLifts) →
            t.conn.phase = .locked ∧ t.conn.lastExit = s.conn.lastExit
              ∧ t.conn.locks.duplicate = s.conn.locks.duplicate
              ∧ (¬ hazardLifts → t.conn.locks.hazard = s.conn.locks.hazard)
              ∧ (hazardLifts → t.conn.locks.hazard = false))
          ∧ (s.conn.locks.duplicate = false → s.conn.locks.hazard = false ∨ hazardLifts →
              (t.conn.phase = .opened ∨ t.conn.phase = .waitPermit ∨ t.conn.phase = .precharging)
                ∧ t.conn.locks = ⟨false, false, false⟩ ∧ t.conn.lastExit = s.conn.lastExit
                ∧ (s.peers.dispatch.mode ≠ some .run ∨ (∃ x, s.hazard.image = some x ∧ x.content.level ≠ none) →
                    t.conn.phase = .opened ∧ t.DrivesOpen)))
      ∧ ((∃ i ∈ s.hazard.set, i.isIndication = true) → t.hazard = s.hazard)
      ∧ ((∀ i ∈ s.hazard.set, i.isIndication = false) →
          t.hazard.firstPre = none ∧ t.hazard.firstAlarm = none ∧ t.hazard.set = s.hazard.set
            ∧ (s.hazard.level.isAlarm = true →
                t.hazard.level = (if s.hazard.evaluated = true ∧ s.hazard.set ≠ [] then .watch else .clear)
                  ∧ t.hazard.release = false ∧ t.hazard.releaseFault = false ∧ t.hazard.confirm = none
                  ∧ t.loader.writeStore = some ⟨none, .none, s.loader.uptime⟩)
            ∧ (s.hazard.level.isAlarm = false →
                t.hazard = { s.hazard with firstPre := none, firstAlarm := none } ∧ t.loader = s.loader))
      ∧ t.charge.q = s.charge.q ∧ t.peers = s.peers ∧ t.analog = s.analog ∧ t.mem = s.mem

/-! ## Limit and share -/

/-- R110: the setpoint period moves the setpoint toward the target: it lands on the target where the distance is at most the step, and
otherwise moves by the step exactly. The step is a tenth of the own ramp, and one more at each period at which the tenths carried from
period to period make a whole; the tenths left are carried on, and none are carried once the target is reached. (In CONNECTED, with the
last frame answered.) R108, R110 step 1: before the step the period makes the share computation, in every state of the connection unit: the
direction, the participants, the weights, the basis, the target and the own ramp after it are those that the computation gives from the
state before; where the same period ends CONNECTED, the report of that sets the basis and the target (R112). -/
def Obligations.SetpointStepsToTarget : Prop :=
  (∀ s : State, s.Configured → s.limit.period ≠ none → s.conn.answered = true →
    ∃ t, exec .setpointPeriod s = .next t
      ∧ (s.conn.phase ≠ .connected → t.conn.phase = s.conn.phase)
      ∧ (t.conn.phase = s.conn.phase → t.limit.SameShare (computeShare (Work.start s)).limit)
      ∧ (s.conn.phase = .connected → t.conn.phase ≠ .connected →
          s.peers.dispatch.mode = some .stop ∧ t.limit.setpoint = 0 ∧ t.limit.residue = 0 ∧ t.limit.target = 0
            ∧ t.limit.basis = .zeroNotConnected))
  ∧ ∀ s : State, s.Configured → s.limit.period ≠ none → s.conn.phase = .connected → s.conn.answered = true →
    s.peers.dispatch.mode ≠ some .stop →
    ∃ t, exec .setpointPeriod s = .next t
      ∧ t = { s with limit := t.limit, conn := t.conn, lamps := t.lamps, freeCount := t.freeCount }
      ∧ t.limit.period = some 0 ∧ t.limit.SameShare (computeShare (Work.start s)).limit
      ∧ (let tenths := s.limit.residue + t.limit.ownRamp % 10
         let step := t.limit.ownRamp / 10 + (if 10 ≤ tenths then 1 else 0)
         let distance := (t.limit.target - s.limit.setpoint).natAbs
         (distance ≤ step → t.limit.setpoint = t.limit.target ∧ t.limit.residue = 0)
           ∧ (step < distance → s.limit.setpoint < t.limit.target → t.limit.setpoint = s.limit.setpoint + step)
           ∧ (step < distance → t.limit.target < s.limit.setpoint → t.limit.setpoint = s.limit.setpoint - step)
           ∧ (step < distance → t.limit.residue = if 10 ≤ tenths then tenths - 10 else tenths))
      ∧ (t.limit.setpoint - s.limit.setpoint).natAbs ≤ t.limit.ownRamp / 10 + 1
      ∧ min s.limit.setpoint t.limit.target ≤ t.limit.setpoint ∧ t.limit.setpoint ≤ max s.limit.setpoint t.limit.target
      ∧ ((t.limit.target - s.limit.setpoint).natAbs ≤ t.limit.ownRamp / 10 → t.limit.setpoint = t.limit.target)
      ∧ (t.limit.setpoint = t.limit.target → t.limit.residue = 0)

/-- R103 to R109: one share computation: the direction, the participants, the own weight and the site's, the basis, and the target: under
SHARE the own part of the site setpoint with the sign of the direction, at most the own capability; under HOLD the setpoint, at most the
site setpoint in magnitude; and 0 under every other basis: outside CONNECTED, on a stale dispatch, on a site setpoint or a weight of 0 and
under STOP. The target never exceeds the site setpoint in magnitude. R96 to R99, R101: a publication computes the factors, the current
limits, the cell powers and the capabilities from its summary. R102, R108, R111: every capability update clamps the setpoint to its new
capability exactly and then makes the share computation: so at a publication in CONNECTED that changes neither the indication set, nor
VISIBILITY_LOST, nor the ladder, and at the end of a tach window, where a change of the thermal derate is the update. -/
def Obligations.ShareWithinBounds : Prop :=
  (∀ w : Work,
    let t := (computeShare w).limit
    let d := w.peers.dispatch
    let site : Int := max (-30000) (min 30000 d.setpoint)
    let ramp : Nat := max 1 (min 10000 d.ramp)
    let weight (dis chg soc : Nat) (uncertain : Bool) : Nat :=
      match t.direction with
      | .discharge => dis * (if uncertain then 750 else 500 + soc / 2) / 1000
      | .charge => chg * (if uncertain then 750 else 1000 - soc / 2) / 1000
      | .none => 0
    let takesPart (e : PeerEntry) : Bool :=
      decide (e.kind = .container ∧ e.presence = .present ∧ e.digest ≠ .mismatch
        ∧ e.status.map (·.conn) = some .connected ∧ e.level.map (·.isPre) ≠ some true)
    ((t.basis = .share →
        t.target.natAbs ≤ (siteSetpoint w.peers.dispatch).natAbs
          ∧ (t.direction = .discharge → 0 ≤ t.target ∧ t.target ≤ w.limit.cDis)
          ∧ (t.direction = .charge → t.target ≤ 0 ∧ -(w.limit.cChg : Int) ≤ t.target))
      ∧ (w.conn.phase ≠ .connected ∨ w.peers.dispatch.condition = .stale ∨ w.peers.dispatch.setpoint = 0 → t.target = 0)
      ∧ 1 ≤ t.ownRamp ∧ t.ownRamp ≤ 10000 ∧ t.setpoint = w.limit.setpoint
      ∧ t.ownWeight ≤ t.siteWeight)
    ∧ (t.direction = .discharge ↔ d.condition ≠ .none ∧ (0 < site ∨ (site = 0 ∧ 0 < w.limit.setpoint)))
    ∧ (t.direction = .charge ↔ d.condition ≠ .none ∧ (site < 0 ∨ (site = 0 ∧ w.limit.setpoint < 0)))
    ∧ t.ownWeight =
        (if w.conn.phase = .connected then weight w.limit.cDis w.limit.cChg w.charge.soc w.charge.uncertain else 0)
    ∧ t.participants = (w.peers.entries.filter takesPart).length + (if w.conn.phase = .connected then 1 else 0)
    ∧ t.siteWeight = t.ownWeight + sumOf ((w.peers.entries.filter takesPart).map fun e =>
        (e.status.map fun f => weight f.dis f.chg f.soc f.flags.socUncertain).getD 0)
    ∧ t.target.natAbs ≤ site.natAbs
    ∧ (t.basis = .zeroNotConnected ↔ w.conn.phase ≠ .connected)
    ∧ (t.basis = .zeroStale ↔ w.conn.phase = .connected ∧ d.condition = .stale)
    ∧ (w.conn.phase = .connected → d.condition ≠ .stale → site = 0 → t.basis = .zeroSite)
    ∧ (w.conn.phase = .connected → d.condition ≠ .stale → site ≠ 0 →
        (t.siteWeight = 0 → t.basis = .zeroWeight)
        ∧ (t.siteWeight ≠ 0 → (d.mode = some .stop → t.basis = .stop) ∧ (d.mode = some .hold → t.basis = .hold)
            ∧ (d.mode = some .run → t.basis = .share)))
    ∧ (t.basis = .share → t.direction = .discharge →
        t.target = (min (site.natAbs * t.ownWeight / t.siteWeight) w.limit.cDis : Nat))
    ∧ (t.basis = .share → t.direction = .charge →
        t.target = -((min (site.natAbs * t.ownWeight / t.siteWeight) w.limit.cChg : Nat) : Int))
    ∧ (t.basis = .hold → t.target.natAbs = min w.limit.setpoint.natAbs site.natAbs
        ∧ (0 ≤ w.limit.setpoint → 0 ≤ t.target) ∧ (w.limit.setpoint ≤ 0 → t.target ≤ 0))
    ∧ (t.basis ≠ .share → t.basis ≠ .hold → t.target = 0)
    ∧ t.ownRamp =
        (if d.condition = .none then 1 else if t.siteWeight = 0 ∨ t.direction = .none then ramp
         else max 1 (ramp * t.ownWeight / t.siteWeight)))
  ∧ (∀ w : Work, w.limit.Clamped (capabilityUpdate w).limit
      ∧ (capabilityUpdate w).limit.SameShare (computeShare (capabilityUpdate w)).limit)
  ∧ (∀ s t : State, exec .tachWindowEnd s = .next t →
      (t.limit.thermalDerate = s.limit.thermalDerate → t.limit = s.limit)
      ∧ (t.limit.thermalDerate ≠ s.limit.thermalDerate →
          s.limit.Clamped t.limit ∧ t.limit.SameShare (computeShare (Work.start t)).limit))
  ∧ ∀ (c : Instr) (s t : State) (x : Summary), (∃ r, c = .moduleReport r) ∨ (∃ n, c = .answerWindowExpiry n) →
    exec c s = .next t → s.scan.round ≠ none → t.scan.round = none → t.scan.summary = some x →
    (s.VisibilityFollows → s.conn.phase = .connected → t.conn.phase = .connected → t.hazard.set = s.hazard.set →
        t.scan.visibilityLost = s.scan.visibilityLost → s.LadderRests x →
        s.limit.Clamped t.limit ∧ t.limit.SameShare (computeShare (Work.start t)).limit)
    ∧
    let cfg := s.loader.cfg
    let low (b : Breakpoints) (y : Int) : Nat :=
      if y ≤ b.lowZero then 0 else if b.lowFull ≤ y then 1000
      else 1000 * (y - b.lowZero).toNat / (b.lowFull - b.lowZero).toNat
    let high (b : Breakpoints) (y : Int) : Nat :=
      if y ≤ b.highFull then 1000 else if b.highZero ≤ y then 0
      else 1000 * (b.highZero - y).toNat / (b.highZero - b.highFull).toNat
    (∀ lo hi, x.tMin = some lo → x.tMax = some hi →
        t.limit.tempDis = min (low cfg.disBreak lo.value) (high cfg.disBreak hi.value)
          ∧ t.limit.tempChg = min (low cfg.chgBreak lo.value) (high cfg.chgBreak hi.value))
      ∧ (x.tMin = none ∨ x.tMax = none → t.limit.tempDis = 0 ∧ t.limit.tempChg = 0)
      ∧ (∀ y, x.vMin = some y → t.limit.voltDis =
          if cfg.vLowTaper ≤ y.mv then 1000 else if y.mv ≤ cfg.vEmpty then 0
          else 1000 * (y.mv - cfg.vEmpty) / (cfg.vLowTaper - cfg.vEmpty))
      ∧ (∀ y, x.vMax = some y → t.limit.voltChg =
          if y.mv ≤ cfg.vHighTaper then 1000 else if cfg.vFull ≤ y.mv then 0
          else 1000 * (cfg.vFull - y.mv) / (cfg.vFull - cfg.vHighTaper))
      ∧ (x.vMin = none → t.limit.voltDis = 0) ∧ (x.vMax = none → t.limit.voltChg = 0)
      ∧ t.limit.iDis = cfg.iMaxDis * min t.limit.tempDis t.limit.voltDis / 1000
      ∧ t.limit.iChg = cfg.iMaxChg * min t.limit.tempChg t.limit.voltChg / 1000
      ∧ t.limit.pDis = t.limit.iDis * x.stringV / 1000000 ∧ t.limit.pChg = t.limit.iChg * x.stringV / 1000000
      ∧ t.limit.summaryPresent = true
      ∧ (let derate := min t.limit.thermalDerate (min t.limit.hazardDerate t.limit.visibility)
         t.limit.cDis = min (t.limit.pDis * derate / 1000) cfg.rating ∧ t.limit.cChg = min (t.limit.pChg * derate / 1000) cfg.rating)

/-! ## The grid connection -/

/-- R170: at each setpoint period one frame goes to the converter, with the next sequence number and, in CONNECTED, the setpoint handed;
in every other state it carries 0. A miss that the same period counts and that ends CONNECTED comes before the frame, which then carries
0 (the model's choice, log entry 8). -/
def Obligations.SetpointFrame : Prop :=
  ∀ s : State, s.Configured → s.limit.period ≠ none →
    ∃ t, exec .setpointPeriod s = .next t
      ∧ t.conn.seq = (s.conn.seq + 1) % 256
      ∧ t.conn.lastFrame = some (t.conn.seq, if s.conn.phase = .connected then t.limit.setpoint else 0)
      ∧ t.conn.answered = false

/-- R171: at the sending of a frame, a frame before it that has had no accepted answer counts a miss, and the fifth in a row makes the link
LOST, which stops the grid-healthy timer (R172). R181: in CONNECTED, RIDE_THROUGH and DISCONNECTING the loss opens everything, and the
state becomes TRIPPED with exit cause LINK_LOST. R177: in PRECHARGING and DC_CLOSED it opens everything as a counted failure, reported to
the permit unit as NOT_STARTED, and the third such failure locks. R174: in WAIT_PERMIT the need is withdrawn, with no failure counted. In the
other states nothing opens. (All without DUPLICATE.) R171, R172: an answer is accepted exactly when its check is good and it echoes the
frame last sent; every accepted answer ends the run of misses, brings the link UP, and starts, keeps or stops the grid-healthy timer. Any
other answer changes nothing. -/
def Obligations.ConverterLink : Prop :=
  (∀ s : State, s.Configured → s.limit.period ≠ none →
    ∃ t, exec .setpointPeriod s = .next t
      ∧ (s.conn.lastFrame = none ∨ s.conn.answered = true →
          t.conn.misses = s.conn.misses ∧ t.conn.linkUp = s.conn.linkUp ∧ t.conn.gridTimer = s.conn.gridTimer)
      ∧ (s.conn.lastFrame ≠ none → s.conn.answered = false → s.conn.linkUp = false →
          t.conn.misses = min 5 (s.conn.misses + 1) ∧ t.conn.linkUp = false ∧ t.conn.gridTimer = s.conn.gridTimer)
      ∧ (s.conn.lastFrame ≠ none → s.conn.answered = false → s.conn.misses < 4 →
          t.conn.misses = s.conn.misses + 1 ∧ t.conn.linkUp = s.conn.linkUp ∧ t.conn.gridTimer = s.conn.gridTimer
            ∧ (s.conn.phase ≠ .connected →
                t.conn.phase = s.conn.phase ∧ t.conn.stateTimer = s.conn.stateTimer ∧ t.conn.drives = s.conn.drives))
      ∧ (s.conn.lastFrame ≠ none → s.conn.answered = false → s.conn.linkUp = true → s.conn.misses = 4 → s.line.duplicate = false →
          t.conn.misses = 5 ∧ t.conn.linkUp = false ∧ t.conn.gridTimer = none ∧ t.conn.gridReached = false
          ∧ (s.conn.phase = .connected ∨ s.conn.phase = .rideThrough ∨ s.conn.phase = .disconnecting →
              t.conn.phase = .tripped ∧ t.DrivesOpen ∧ t.conn.stateTimer = some 0 ∧ t.conn.failures = s.conn.failures
                ∧ t.conn.lastExit = some ⟨.linkLost, s.conn.phase, s.loader.uptime⟩
                ∧ (s.conn.phase = .connected → t.limit.setpoint = 0))
          ∧ (s.conn.phase = .precharging ∨ s.conn.phase = .dcClosed →
              t.DrivesOpen ∧ t.conn.failures = min 3 (s.conn.failures + 1)
                ∧ t.conn.lastExit = some ⟨.linkLost, s.conn.phase, s.loader.uptime⟩
                ∧ (s.conn.failures < 2 → t.conn.phase = .tripped ∧ t.conn.stateTimer = some 0)
                ∧ (2 ≤ s.conn.failures → t.conn.phase = .locked ∧ t.conn.stateTimer = none ∧ t.conn.locks.failures = true)
                ∧ (∀ need, s.permit.served = some need → need.purpose = .precharge → s.permit.queue = [] →
                    t.permit.served = none ∧ t.permit.hold = none
                      ∧ t.permit.lastHold = some ⟨.precharge, .notStarted, s.permit.heldAt, s.loader.uptime⟩))
          ∧ (s.conn.phase = .waitPermit →
              t.conn.phase = .opened ∧ t.DrivesOpen ∧ t.conn.failures = s.conn.failures ∧ t.conn.lastExit = s.conn.lastExit
                ∧ ∀ need ∈ t.permit.queue, need.purpose ≠ .precharge)
          ∧ (s.conn.phase = .opened ∨ s.conn.phase = .tripped ∨ s.conn.phase = .locked →
              t.conn.phase = s.conn.phase ∧ t.conn.drives = s.conn.drives ∧ t.conn.stateTimer = s.conn.stateTimer
                ∧ t.conn.failures = s.conn.failures ∧ t.conn.lastExit = s.conn.lastExit)))
  ∧ ∀ (a : ConverterAnswer) (s : State),
    ((a.checkGood = false ∨ (∀ v, s.conn.lastFrame ≠ some (a.seqEcho, v))) →
      ∃ l n, exec (.converterAnswer a) s = .next { s with lamps := l, freeCount := n })
    ∧ (s.Configured → a.checkGood = true → (∃ v, s.conn.lastFrame = some (a.seqEcho, v)) →
      ∃ t, exec (.converterAnswer a) s = .next t ∧ s.ClientFrame t
        ∧ t.conn.lastAnswer = some ⟨a, s.loader.uptime⟩ ∧ t.conn.misses = 0 ∧ t.conn.answered = true ∧ t.conn.linkUp = true
        ∧ t.conn.gridTimer =
            (if a.grid = .healthy then (if s.conn.gridTimer = none then some 0 else s.conn.gridTimer) else none)
        ∧ (a.grid ≠ .healthy → t.conn.gridReached = false))

/-- R174 to R177, R179 to R181: what an accepted answer does to the state: a grid that is not healthy withdraws the need in WAIT_PERMIT, the
pre-charge threshold closes the DC side, READY connects, a grid that is not healthy starts the ride-through and its return ends it, power
below 5 % of the rating ends an orderly disconnection, a fault trips, and in a sequence a fault or a grid that is not healthy aborts it, the
fault counted as a failure, the third of which locks (without DUPLICATE). The answer that ends an orderly disconnection may let OPEN be left
at once (R173), which takes a dispatch of RUN; every other move is the same whatever the dispatch. Where one answer shows several of these,
the fault goes before the grid state, and that before the rest (the model's choice, log entry 17). R168: every move away from a state but
WAIT_PERMIT records the state left and the moment; an answer that moves nothing keeps the last exit, and so does a withdrawal. The cause is
GRID_LOST at the entry into RIDE_THROUGH (DEDUCED, log entry 13) and RIDE_THROUGH_EXPIRED where that state ends at once; the rules name none
at the entries into DC_CLOSED and CONNECTED, and at the end of an orderly disconnection it is the cause that entered it or DISCONNECTED
(free values, log entry 13). -/
def Obligations.AnswerMovesState : Prop :=
  ∀ (a : ConverterAnswer) (s : State), s.Configured → a.checkGood = true → (∃ v, s.conn.lastFrame = some (a.seqEcho, v)) →
    s.line.duplicate = false →
    let leaves (t : State) : Prop := ∃ cause, t.conn.lastExit = some ⟨cause, s.conn.phase, s.loader.uptime⟩
    ∃ t, exec (.converterAnswer a) s = .next t
      ∧ t.conn.drives = (if t.conn.phase = s.conn.phase then s.conn.drives else drivesOf t.conn.phase)
      ∧ (s.conn.phase = .opened ∨ s.conn.phase = .tripped ∨ s.conn.phase = .locked →
          t.conn.phase = s.conn.phase ∧ t.conn.lastExit = s.conn.lastExit)
      ∧ (s.conn.phase = .waitPermit → t.conn.phase = (if a.grid = .healthy then .waitPermit else .opened)
          ∧ t.conn.failures = s.conn.failures ∧ t.conn.lastExit = s.conn.lastExit)
      ∧ (s.conn.phase = .precharging ∨ s.conn.phase = .dcClosed → a.fault = true →
          t.conn.failures = min 3 (s.conn.failures + 1)
            ∧ t.conn.lastExit = some ⟨.converterFault, s.conn.phase, s.loader.uptime⟩
            ∧ (s.conn.failures < 2 → t.conn.phase = .tripped ∧ t.conn.stateTimer = some 0)
            ∧ (2 ≤ s.conn.failures → t.conn.phase = .locked ∧ t.conn.locks.failures = true))
      ∧ (s.conn.phase = .precharging ∨ s.conn.phase = .dcClosed → a.fault = false → a.grid ≠ .healthy →
          t.conn.phase = .tripped ∧ t.conn.failures = s.conn.failures ∧ t.conn.stateTimer = some 0
            ∧ t.conn.lastExit = some ⟨.gridLost, s.conn.phase, s.loader.uptime⟩)
      ∧ (s.conn.phase = .precharging → a.fault = false → a.grid = .healthy → ∀ v, s.conn.threshold = some v →
          (v ≤ a.dcLink → t.conn.phase = .dcClosed ∧ leaves t)
          ∧ (a.dcLink < v → t.conn.phase = .precharging ∧ t.conn.lastExit = s.conn.lastExit))
      ∧ (s.conn.phase = .dcClosed → a.fault = false → a.grid = .healthy →
          (a.ready = true → t.conn.phase = .connected ∧ t.conn.failures = 0 ∧ leaves t)
          ∧ (a.ready = false → t.conn.phase = .dcClosed ∧ t.conn.lastExit = s.conn.lastExit))
      ∧ (s.conn.phase = .connected → a.fault = false →
          (a.grid = .healthy → t.conn.phase = .connected ∧ t.conn.lastExit = s.conn.lastExit)
          ∧ (a.grid ≠ .healthy → s.loader.cfg.rideThrough ≠ 0 → t.conn.phase = .rideThrough ∧ t.limit.setpoint = 0
              ∧ t.conn.lastExit = some ⟨.gridLost, .connected, s.loader.uptime⟩)
          ∧ (a.grid ≠ .healthy → s.loader.cfg.rideThrough = 0 → t.conn.phase = .opened ∧ t.limit.setpoint = 0
              ∧ t.conn.lastExit = some ⟨.rideThroughExpired, .rideThrough, s.loader.uptime⟩))
      ∧ (s.conn.phase = .rideThrough → a.fault = false →
          (a.grid = .healthy → t.conn.phase = .connected ∧ leaves t)
          ∧ (a.grid ≠ .healthy → t.conn.phase = .rideThrough ∧ t.conn.lastExit = s.conn.lastExit))
      ∧ (s.conn.phase = .disconnecting → a.fault = false →
          (s.loader.cfg.rating * 5 / 100 ≤ a.power.natAbs → t.conn.phase = .disconnecting ∧ t.conn.lastExit = s.conn.lastExit)
          ∧ (a.power.natAbs < s.loader.cfg.rating * 5 / 100 →
              (t.conn.phase = .opened ∨ t.conn.phase = .waitPermit ∨ t.conn.phase = .precharging)
                ∧ (s.peers.dispatch.mode ≠ some .run → t.conn.phase = .opened) ∧ leaves t
                ∧ ∀ cause, s.conn.exitPending = some cause → s.DisconnectionEnds t cause))
      ∧ (s.conn.phase = .connected ∨ s.conn.phase = .rideThrough ∨ s.conn.phase = .disconnecting → a.fault = true →
          t.conn.phase = .tripped ∧ t.conn.lastExit = some ⟨.converterFault, s.conn.phase, s.loader.uptime⟩)

/-- R172, R173: the grid-healthy timer's reaching the delay counts as reached; in OPEN, with every other condition of R173 met, the unit
becomes WAIT_PERMIT (or, where the permit is held at once, PRECHARGING), and in any other state nothing else changes. -/
def Obligations.GridDelayReached : Prop :=
  ∀ s : State, s.Configured → s.conn.gridTimer ≠ none → s.conn.gridReached = false →
    (s.conn.phase ≠ .opened →
      ∃ l n, exec .gridHealthyDelayReached s = .next { s with
        conn := { s.conn with gridReached := true, gridTimer := some (s.loader.cfg.reconnectDelay * 1000) }
        lamps := l, freeCount := n })
    ∧ (s.conn.phase = .opened → s.scan.summary ≠ none → s.hazard.level.code ≤ 1 →
        (∀ i, s.hazard.image = some i → i.content.level = none) → s.scan.visibilityLost = false →
        s.conn.tripDischarge = false → s.conn.tripCharge = false → s.conn.linkUp = true →
        s.peers.dispatch.condition = .current → s.peers.dispatch.mode = some .run → s.peers.service = .inService →
        s.line.duplicate = false →
        ∃ t, exec .gridHealthyDelayReached s = .next t ∧ s.ClientFrame t ∧ t.conn.gridReached = true
          ∧ (t.conn.phase = .waitPermit ∨ t.conn.phase = .precharging)
          ∧ (t.conn.phase = .precharging →
              t.permit.phase = .holding ∧ t.permit.served.map (·.purpose) = some .precharge))

/-- R175 to R177, R183: a sequence whose state timer expires opens everything; it counts as a failure, and the third in a row locks the
unit with the reason FAILURES in place of TRIPPED (without DUPLICATE). -/
def Obligations.SequenceTimeouts : Prop :=
  ∀ (c : Instr) (cause : ExitCause) (s : State),
    (c = .prechargeTimeout ∧ cause = .prechargeTimeout ∧ s.conn.phase = .precharging)
      ∨ (c = .readyTimeout ∧ cause = .readyTimeout ∧ s.conn.phase = .dcClosed) →
    s.Configured → s.conn.stateTimer ≠ none → s.line.duplicate = false →
    ∃ t, exec c s = .next t ∧ s.ClientFrame t ∧ t.DrivesOpen
      ∧ t.conn.failures = min 3 (s.conn.failures + 1)
      ∧ t.conn.lastExit = some ⟨cause, s.conn.phase, s.loader.uptime⟩
      ∧ (s.conn.failures < 2 → t.conn.phase = .tripped ∧ t.conn.stateTimer = some 0 ∧ t.conn.locks = s.conn.locks)
      ∧ (2 ≤ s.conn.failures → t.conn.phase = .locked ∧ t.conn.locks.failures = true)

/-- R179, R180, R181, R183: the timers that lead back to OPEN: the ride-through time, the disconnect wait and the retry delay open
everything and make the state OPEN (with a dispatch that is not RUN, so that OPEN is not left at once; without DUPLICATE), and the
visibility timer starts an orderly disconnection. (The last exit at the end of DISCONNECTING has the cause that entered it, as R180 says, or
value 17, DISCONNECTED, of R168: a free value, the model's choice, log entry 13; and the visibility timer stops at its expiry: log entry
24.) R112, R174, R177, R178, R180: every orderly cause (the hazard level reaching PRE_ALARM, the visibility timer, DUPLICATE, dispatch STOP:
in CONNECTED once the setpoint is 0, at the report or at a later setpoint handed) makes CONNECTED and RIDE_THROUGH DISCONNECTING with the
setpoint 0, aborts a sequence and withdraws the need of WAIT_PERMIT; a dispatch that becomes STALE does the last two, as STOP. (Where a
round's summary gives PRE_ALARM together with a cell limit, R181 opens at once.) R180, R183: DUPLICATE makes OPEN, WAIT_PERMIT and TRIPPED
LOCKED, adds its reason in LOCKED, and makes the end of DISCONNECTING LOCKED. R168: whatever the command, one that leaves PRECHARGING,
DC_CLOSED, CONNECTED, RIDE_THROUGH or DISCONNECTING without a reset records the last exit at that moment. -/
def Obligations.LeavingTimers : Prop :=
  (∀ s : State, s.Configured → s.line.duplicate = false → s.peers.dispatch.mode ≠ some .run →
    (s.conn.phase = .rideThrough → s.conn.stateTimer ≠ none →
      ∃ t, exec .rideThroughExpired s = .next t
        ∧ t = { s with conn := t.conn, lamps := t.lamps, freeCount := t.freeCount }
        ∧ t.conn.phase = .opened ∧ t.DrivesOpen ∧ t.conn.lastExit = some ⟨.rideThroughExpired, .rideThrough, s.loader.uptime⟩)
    ∧ (∀ cause, s.conn.phase = .disconnecting → s.conn.stateTimer ≠ none → s.conn.exitPending = some cause →
      ∃ t, exec .disconnectWaitExpiry s = .next t
        ∧ t = { s with conn := t.conn, lamps := t.lamps, freeCount := t.freeCount }
        ∧ t.conn.phase = .opened ∧ t.DrivesOpen ∧ s.DisconnectionEnds t cause)
    ∧ (s.conn.phase = .tripped → s.conn.stateTimer ≠ none →
      ∃ t, exec .retryDelayExpiry s = .next t
        ∧ t = { s with conn := t.conn, lamps := t.lamps, freeCount := t.freeCount }
        ∧ t.conn.phase = .opened ∧ t.DrivesOpen ∧ t.conn.stateTimer = none ∧ t.conn.lastExit = s.conn.lastExit
        ∧ t.conn.tripDischarge = (s.conn.tripDischarge && s.analog.tripDischarge)
        ∧ t.conn.tripCharge = (s.conn.tripCharge && s.analog.tripCharge))
    ∧ (s.conn.visibilityTimer ≠ none →
      ∃ t, exec .visibilityTimerExpiry s = .next t ∧ s.ClientFrame t ∧ t.conn.visibilityTimer = none ∧ s.OrderlyEnd t .visibility
        ∧ (s.conn.phase = .opened ∨ s.conn.phase = .tripped ∨ s.conn.phase = .locked ∨ s.conn.phase = .disconnecting →
            t = { s with conn := { s.conn with visibilityTimer := none }, lamps := t.lamps, freeCount := t.freeCount })))
  ∧ (∀ (c : Instr) (s t : State), s.Configured → s.hazard.level = .clear ∨ s.hazard.level = .watch → exec c s = .next t →
      t.hazard.level = .preAlarm → ((∃ r, c = .moduleReport r) ∨ (∃ n, c = .answerWindowExpiry n) → cellLimit t.scan.summary = none) →
      s.OrderlyEnd t .preAlarm)
  ∧ (∀ s : State, s.Configured → s.limit.period ≠ none → s.conn.phase = .connected → s.peers.dispatch.mode = some .stop →
      s.conn.answered = true ∨ s.conn.misses < 4 →
      ∃ t v, exec .setpointPeriod s = .next t ∧ t.conn.lastFrame = some (t.conn.seq, v)
        ∧ (v = 0 → s.OrderlyEnd t .stop) ∧ (v ≠ 0 → t.conn.phase = .connected ∧ t.limit.setpoint = v))
  ∧ (∀ s : State, s.Configured → s.peers.dispatch.staleness ≠ none →
      s.conn.phase = .waitPermit ∨ s.conn.phase = .precharging ∨ s.conn.phase = .dcClosed →
      ∃ t, exec .stalenessTimerExpiry s = .next t ∧ t.peers.dispatch.condition = .stale ∧ s.OrderlyEnd t .stop)
  ∧ (∀ s : State, s.Configured → s.line.duplicate = true → s.conn.phase = .disconnecting → s.conn.stateTimer ≠ none →
      ∃ t, exec .disconnectWaitExpiry s = .next t
        ∧ t = { s with conn := t.conn, lamps := t.lamps, freeCount := t.freeCount }
        ∧ t.conn.phase = .locked ∧ t.DrivesOpen ∧ t.conn.locks = { s.conn.locks with duplicate := true }
        ∧ ∀ cause, s.conn.exitPending = some cause → s.DisconnectionEnds t cause)
  ∧ (∀ (c : Instr) (s t : State), s.Configured → t.Configured → exec c s = .next t → s.conn.phase.recordsExit = true →
      t.conn.phase ≠ s.conn.phase → ∃ x, t.conn.lastExit = some x ∧ x.left.recordsExit = true ∧ x.uptime = s.loader.uptime)
  ∧ ∀ (c : Byte) (s : State) (f : Frame), s.Configured → s.CompletesFrame c f →
    (∀ setpoint ramp, s.Accepts f (.dispatch setpoint ramp .stop) → (s.peers.entries.getD (f.source - 1) .reset).kind = .gateway →
        s.peers.dispatch.condition ≠ .current ∨ s.peers.dispatch.mode ≠ some .stop →
      ∃ t, exec (.frameComplete c) s = .next t
        ∧ (s.conn.phase ≠ .connected ∨ s.limit.setpoint = 0 → s.OrderlyEnd t .stop)
        ∧ (s.conn.phase = .connected → s.limit.setpoint ≠ 0 → t.conn = s.conn ∧ t.limit = s.limit)
        ∧ (s.conn.phase = .opened ∨ s.conn.phase = .tripped ∨ s.conn.phase = .locked ∨ s.conn.phase = .disconnecting →
            t.conn = s.conn))
    ∧ (f.checkGood = true → 1 ≤ f.kind → f.kind ≤ 10 → decodeMessage f.kind f.payload ≠ none → f.source = s.loader.straps →
        s.line.duplicate = false →
      ∃ t, exec (.frameComplete c) s = .next t ∧ t.line.duplicate = true ∧ s.OrderlyEnd t .duplicate
        ∧ (s.conn.phase = .opened ∨ s.conn.phase = .waitPermit ∨ s.conn.phase = .tripped →
            t.conn.phase = .locked ∧ t.DrivesOpen ∧ t.conn.stateTimer = none
              ∧ t.conn.locks = { s.conn.locks with duplicate := true } ∧ t.conn.lastExit = s.conn.lastExit)
        ∧ (s.conn.phase = .locked → t.conn = { s.conn with locks := { s.conn.locks with duplicate := true } })
        ∧ (s.conn.phase = .disconnecting → t.conn = s.conn))

/-! ## The station line -/

/-- R116, R121, R133, R144: the receiver outside a complete frame: a quiet line brings it to HUNT (an unfinished frame counts one line
error there, and the receiver goes to HUNT at once where R121 leads to DISCARD, which the same quiet line leaves: the model's choice, log
entry 20; the first HUNT after the start begins the listening time); A5h after a quiet line, then 3Ch, begins a frame, and its further
characters are collected; any other first or second character, a length above 48, a character without a quiet line before it, and every
receive fault where it can stand count one line error and lead to DISCARD, where characters and faults are ignored (that the row
of a character taken brings the receive fault about, as the row of the fault does, is the model's choice, log entry 19; that a wrong
preamble is taken at the character that differs, log entry 20). -/
def Obligations.ReceiverMoves : Prop :=
  ∀ s : State, s.Running → s.line.tx ≠ .sending → s.loader.listenOnly = false →
    let faulted (line : LineState) : LineState := { line with rx := .discard, rxBuf := [], errors := min 255 (s.line.errors + 1) }
    let freed : LineState := { s.line with idle := 0, taken := false }
    let held : LineState := { s.line with idle := 0, taken := true }
    let becomes (c : Instr) (line : LineState) : Prop :=
      ∃ l n, exec c s = .next { s with line := line, lamps := l, freeCount := n }
    (s.line.rx = .hunt → becomes .receiverIdleReached { s.line with idle := max 12 s.line.idle, taken := false })
    ∧ (s.line.rx ≠ .hunt →
      ∃ l n, exec .receiverIdleReached s = .next { s with
        line := { s.line with
          rx := .hunt, rxBuf := [], idle := max 12 s.line.idle, taken := false
          errors := if s.line.rx = .receiving then min 255 (s.line.errors + 1) else s.line.errors }
        peers := if s.peers.huntSeen then s.peers else { s.peers with huntSeen := true, listening := some 0 }
        lamps := l, freeCount := n })
    ∧ (s.line.rx = .hunt → s.line.idle < 12 → becomes (.receiveFault .trailing) (faulted held))
    ∧ (s.line.rx ≠ .discard → becomes (.receiveFault .badStopBit) (faulted held))
    ∧ ((s.line.rx = .hunt ∧ 12 ≤ s.line.idle) ∨ (s.line.rx = .receiving ∧ s.line.rxBuf.length ≤ 1) →
        becomes (.receiveFault .badPreamble) (faulted freed))
    ∧ (s.line.rx = .receiving → s.line.rxBuf.length = 5 → becomes (.receiveFault .overLong) (faulted freed))
    ∧ (s.line.rx = .discard → ∀ f, becomes (.receiveFault f) s.line)
    ∧ ∀ c : Byte,
      (s.line.rx = .discard → becomes (.characterTaken c) freed)
      ∧ (s.line.rx = .hunt → s.line.idle < 12 → becomes (.characterTaken c) (faulted freed))
      ∧ (s.line.rx = .hunt → 12 ≤ s.line.idle → c = 0xA5#8 →
          becomes (.characterTaken c) { freed with rx := .receiving, rxBuf := [c] })
      ∧ (s.line.rx = .hunt → 12 ≤ s.line.idle → c ≠ 0xA5#8 → becomes (.characterTaken c) (faulted freed))
      ∧ (s.line.rx = .receiving →
          (s.line.rxBuf = [] ∧ c ≠ 0xA5#8) ∨ (s.line.rxBuf.length = 1 ∧ c ≠ 0x3C#8)
            ∨ (s.line.rxBuf.length = 5 ∧ 48 < c.toNat) →
          becomes (.characterTaken c) (faulted freed))
      ∧ (s.line.rx = .receiving → badStart (s.line.rxBuf ++ [c]) = false →
          frameEnd (s.line.rxBuf ++ [c]) ≠ some (s.line.rxBuf ++ [c]).length →
          becomes (.characterTaken c) { freed with rxBuf := s.line.rxBuf ++ [c] })

/-- R122, R133, R134, R137: the tests of a complete frame, in their order: a bad check or a malformed frame counts one line error and
changes nothing else; an unknown kind, a source of 0 or above 30 (above 31: log entry 20), a destination that is another station, or ALL
where the kind goes to one station, changes nothing; the own number as source sets DUPLICATE; any other frame is heard from its source.
The row of the last character and the row of the frame's completion name one event (the model's choice, log entry 19). R139 to R142: what
a PRESENT, a STATUS, a HAZARD and a DISPATCH leave in the entry of their source and in the effective dispatch. R123, R131: a READ is
answered with a RECORD that echoes it, unless DUPLICATE is set or the REPLY store is full. R193, R194: the RECORD's result is NO_SUCH_RECORD,
with empty content, where the kind, instance or part is out of the ranges of R193's table, and else OK with the content of the part, whose
fields are stated for parts of every record kind (numbers of states, flags and sets that the chapters do not number, and the order where two
lists differ: the model's choice, log entry 14); the answered and the dropped count rise. -/
def Obligations.FrameTests : Prop :=
  ∀ (c : Byte) (s : State) (f : Frame), s.CompletesFrame c f →
    let ended : LineState := { s.line with rx := .hunt, rxBuf := [], idle := 0, taken := false }
    exec (.characterTaken c) s = exec (.frameComplete c) s
    ∧ (f.checkGood = false ∨ (f.kind ≤ 10 ∧ 1 ≤ f.kind ∧ decodeMessage f.kind f.payload = none) →
      ∃ l n, exec (.frameComplete c) s = .next { s with
        line := { ended with errors := min 255 (s.line.errors + 1) }, lamps := l, freeCount := n })
    ∧ (f.checkGood = true →
        f.kind = 0 ∨ 10 < f.kind
          ∨ (decodeMessage f.kind f.payload ≠ none ∧ f.source ≠ s.loader.straps
              ∧ (f.source = 0 ∨ 30 < f.source ∨ (f.dest ≠ s.loader.straps ∧ f.dest ≠ 31)
                  ∨ (f.dest = 31 ∧ (f.kind = 6 ∨ f.kind = 7 ∨ f.kind = 9 ∨ f.kind = 10)))) →
      ∃ l n, exec (.frameComplete c) s = .next { s with line := ended, lamps := l, freeCount := n })
    ∧ (f.checkGood = true → 1 ≤ f.kind → f.kind ≤ 10 → decodeMessage f.kind f.payload ≠ none → f.source = s.loader.straps →
      ∃ t, exec (.frameComplete c) s = .next t ∧ t.line.duplicate = true ∧ t.line.errors = s.line.errors ∧ t.peers = s.peers
        ∧ (s.line.duplicate = false → t.line.permits = [] ∧ t.line.replies = [] ∧ t.line.routine = []
            ∧ t.permit.deferred = []))
    ∧ ∀ m, s.Accepts f m →
      let old := s.peers.entries.getD (f.source - 1) .reset
      let heard : PeerEntry := { old with presence := .present, age := 0, frames := min 65535 (old.frames + 1) }
      ∃ t, exec (.frameComplete c) s = .next t ∧ t.line.rx = .hunt ∧ t.line.rxBuf = [] ∧ t.line.errors = s.line.errors
        ∧ (∀ i, i ≠ f.source - 1 → t.peers.entries[i]? = s.peers.entries[i]?)
        ∧ t.scan = s.scan ∧ t.charge = s.charge ∧ t.hazard.level = s.hazard.level ∧ t.mem = s.mem
        ∧ (let entry := t.peers.entries.getD (f.source - 1) .reset
          let dispatchKept : Prop := t.peers.dispatch = s.peers.dispatch
          match m with
          | .present kind a =>
            entry = { heard with
                kind := kind, announced := some a, status := none
                digest := if s.loader.digest = a.digest then .same else .mismatch }
              ∧ (t.peers.siteMismatch = true ↔ ∃ e ∈ t.peers.entries, e.presence ≠ .empty ∧ e.digest = .mismatch)
              ∧ (s.line.tx ≠ .sending → s.line.duplicate = false →
                  t.line.routine =
                    if s.peers.service = .listening ∨ .status ∈ s.line.routine then s.line.routine else s.line.routine ++ [.status])
              ∧ dispatchKept ∧ t.conn = s.conn ∧ t.permit = s.permit
          | .status kind x level =>
            entry = { heard with kind := kind, status := some x, level := some level }
              ∧ t.hazard.neighbourAlarm = neighbourAlarmOf t.peers.entries ∧ dispatchKept
          | .hazard level x =>
            entry = { heard with level := some level, hazard := some x }
              ∧ t.hazard.neighbourAlarm = neighbourAlarmOf t.peers.entries ∧ dispatchKept
          | .dispatch setpoint ramp mode =>
            (old.kind = .gateway →
              entry = { heard with dispatch := some ⟨setpoint, ramp, mode, 0⟩ }
                ∧ t.peers.dispatch = ⟨.current, some f.source, setpoint, ramp, some mode, some 0⟩
                ∧ (s.peers.dispatch.condition = .current → s.peers.dispatch.mode = some mode → t.conn = s.conn))
            ∧ (old.kind ≠ .gateway → entry = heard ∧ dispatchKept ∧ t.conn = s.conn)
          | .read record inst part =>
            entry = heard ∧ dispatchKept ∧ t.conn = s.conn ∧ t.permit = s.permit
              ∧ (s.line.duplicate = true ∨ 4 ≤ s.line.replies.length → t.line.replies = s.line.replies)
              ∧ (s.line.duplicate = true → t.loader = s.loader)
              ∧ (s.line.duplicate = false → 4 ≤ s.line.replies.length →
                  t.loader = { s.loader with dropped := min 65535 (s.loader.dropped + 1) })
              ∧ (s.line.duplicate = false → s.line.replies.length < 4 →
                  t.loader = { s.loader with answered := min 65535 (s.loader.answered + 1) }
                  ∧ ∃ result content, t.line.replies = s.line.replies ++ [⟨f.source, f.payload ++ result :: content⟩]
                    ∧ (¬ RecordReadable record inst part → result = 1#8 ∧ content = [])
                    ∧ (RecordReadable record inst part → result = 0#8
                        ∧ ∀ fields, State.recordFields { s with peers := t.peers } record inst part = some fields →
                            HoldsFields content fields))
          | .ask _ _ _ _ => entry = heard ∧ dispatchKept
          | .grant _ => entry = heard ∧ dispatchKept
          | .defer _ => entry = heard ∧ dispatchKept
          | .release _ => entry = heard ∧ dispatchKept
          | .record => entry = heard ∧ dispatchKept ∧ t.conn = s.conn ∧ t.permit = s.permit)

/-- R126: each deferral of a WAITING transmitter raises the count, saturating at 8, where the station is promoted; the idle count
restarts, and the start bit that took the line is received (R121): it begins a frame after a quiet line, and trails the frame before it
otherwise. No other event moves the count or takes the promotion but a frame sent and a reset. -/
def Obligations.Deferrals : Prop :=
  (∀ s : State, s.line.tx = .waiting → s.loader.listenOnly = false →
    let counted : LineState := { s.line with
      deferrals := min 8 (s.line.deferrals + 1)
      promoted := s.line.promoted || decide (min 8 (s.line.deferrals + 1) = 8), idle := 0, taken := true }
    let becomes (line : LineState) : Prop := ∃ l n, exec .deferral s = .next { s with line := line, lamps := l, freeCount := n }
    (s.line.rx = .hunt → 12 ≤ s.line.idle → becomes { counted with rx := .receiving, rxBuf := [] })
    ∧ (s.line.rx = .hunt → s.line.idle < 12 →
        becomes { counted with rx := .discard, rxBuf := [], errors := min 255 (s.line.errors + 1) })
    ∧ (s.line.rx ≠ .hunt → becomes counted))
  ∧ ∀ (c : Instr) (s t : State), c ≠ .deferral → c ≠ .frameSent → c.resets = false → exec c s = .next t →
      t.line.deferrals = s.line.deferrals ∧ t.line.promoted = s.line.promoted

/-- R121, R124, R125, R127 to R132, R145, R153: a WAITING transmitter sends the frame in hand, composed at that moment, once the idle
count has reached its access gap, and not before; a collision leaves the frame in its store with its promotion bar (a HAZARD frame gives
way to its next frame) and the counts as they were; a frame sent leaves its store and clears the counts; the own PRESENT sent begins the
learning time, and the current ASK sent starts the ask timer. After either the receiver waits for a quiet line. R125: every step keeps the
frame in hand that of the highest class whose store holds one, and the transmitter WAITING exactly while a store holds a frame, whenever
none is being sent outside the listen-only start. R159: at the report of a frame of the PERMIT store the own frame owed and then the owed
GRANTs are placed, each GRANT while at least 3 places are free (and in IDLE and BACKOFF only: DEDUCED, log entry 16). -/
def Obligations.Transmitter : Prop :=
  (∀ s t : State, s.AlarmLocks → s.CapabilityFollows → s.HandFollows → step s = .next t → t.HandFollows)
  ∧ ∀ s : State,
    (∀ k, s.Running → s.line.rx = .hunt → s.line.tx = .waiting → s.line.inHand = some k →
      let offset (barred : Bool) : Nat := if s.line.promoted && !barred then 0 else 2 * s.loader.straps
      let gap : Nat :=
        match k with
        | .urgent => 16 + offset s.line.bars.urgent
        | .permit => 80 + offset s.line.bars.permit
        | .reply => 144 + offset s.line.bars.reply
        | .routine => 208 + offset s.line.bars.routine
      (gap ≤ s.line.idle →
        ∃ bytes l n, exec .transmitStart s = .next { s with
            line := { s.line with tx := .sending, txBytes := bytes, idle := 0, taken := true }, lamps := l, freeCount := n }
          ∧ (∀ f, k = .urgent → s.line.urgent = some f → bytes = frameChars s.loader.straps 31 3 (hazardPayload f))
          ∧ (∀ tag waits p up rest, k = .permit → s.line.permits = .ask tag waits p up :: rest →
              bytes = frameChars s.loader.straps 31 5 (askPayload tag waits p up))
          ∧ (∀ dest tag rest, k = .permit → s.line.permits = .grant dest tag :: rest →
              bytes = frameChars s.loader.straps dest 6 (beBytes 1 tag))
          ∧ (∀ dest tag rest, k = .permit → s.line.permits = .defer dest tag :: rest →
              bytes = frameChars s.loader.straps dest 7 (beBytes 1 tag))
          ∧ (∀ tag rest, k = .permit → s.line.permits = .release tag :: rest →
              bytes = frameChars s.loader.straps 31 8 (beBytes 1 tag))
          ∧ (∀ f rest, k = .reply → s.line.replies = f :: rest → bytes = frameChars s.loader.straps f.dest 10 f.payload)
          ∧ ((k = .permit ∧ s.line.permits.head? = some .status) ∨ (k = .routine ∧ s.line.routine.head? = some .status) →
              bytes = frameChars s.loader.straps 31 2 (statusPayload
                ⟨s.limit.cDis, s.limit.cChg, s.charge.soc, s.thermal.aux, s.conn.phase, s.limit.setpoint,
                  ⟨s.charge.uncertain, s.hazard.neighbourAlarm, s.line.degraded, s.thermal.auxWait, s.scan.visibilityLost,
                    s.peers.siteMismatch⟩⟩ s.hazard.level))
          ∧ (k = .routine → s.line.routine.head? = some .present → s.loader.startKind = some .configured →
              bytes = frameChars s.loader.straps 31 1
                (presentPayload ⟨s.loader.digest, s.loader.cfg.moduleCount, s.loader.cfg.rating⟩)))
      ∧ (s.line.idle < gap → ∃ l n, exec .transmitStart s = .next { s with lamps := l, freeCount := n }))
    ∧ (s.line.tx = .sending →
      ∃ t, exec .collision s = .next t
        ∧ t = { s with line := t.line, lamps := t.lamps, freeCount := t.freeCount }
        ∧ t.line.rx = .discard ∧ t.line.rxBuf = [] ∧ t.line.txBytes = [] ∧ t.line.tx ≠ .sending ∧ t.line.errors = s.line.errors
        ∧ t.line.idle = 0 ∧ t.line.deferrals = s.line.deferrals ∧ t.line.promoted = s.line.promoted
        ∧ t.line.permits = s.line.permits ∧ t.line.replies = s.line.replies ∧ t.line.routine = s.line.routine
        ∧ (s.line.inHand = some .urgent → ∀ f, s.line.urgentNext = some f →
            t.line.urgent = some f ∧ t.line.urgentNext = none ∧ t.line.bars.urgent = false)
        ∧ (∀ k, s.line.inHand = some k → k ≠ .urgent ∨ s.line.urgentNext = none →
            t.line.bars.get k = true ∧ t.line.urgent = s.line.urgent))
    ∧ (s.line.tx = .sending → s.line.inHand = some .urgent ∨ s.line.inHand = some .reply →
      ∃ t, exec .frameSent s = .next t
        ∧ t = { s with line := t.line, lamps := t.lamps, freeCount := t.freeCount }
        ∧ t.line.rx = .discard ∧ t.line.txBytes = [] ∧ t.line.tx ≠ .sending ∧ t.line.deferrals = 0 ∧ t.line.promoted = false
        ∧ t.line.permits = s.line.permits ∧ t.line.routine = s.line.routine
        ∧ (s.line.inHand = some .urgent →
            t.line.urgent = s.line.urgentNext ∧ t.line.urgentNext = none ∧ t.line.replies = s.line.replies)
        ∧ (s.line.inHand = some .reply → t.line.replies = s.line.replies.tail ∧ t.line.urgent = s.line.urgent))
    ∧ (∀ r rest, s.line.tx = .sending → s.line.inHand = some .routine → s.line.routine = r :: rest →
      ∃ t, exec .frameSent s = .next t
        ∧ t = { s with line := t.line, peers := t.peers, lamps := t.lamps, freeCount := t.freeCount }
        ∧ t.line.rx = .discard ∧ t.line.txBytes = [] ∧ t.line.tx ≠ .sending ∧ t.line.deferrals = 0 ∧ t.line.promoted = false
        ∧ t.line.permits = s.line.permits ∧ t.line.replies = s.line.replies ∧ t.line.urgent = s.line.urgent
        ∧ t.line.routine = rest ++ (if s.line.statusAgain then [.status] else []) ∧ t.line.statusAgain = false
        ∧ (r = .present → s.peers.service = .announcing →
            t.peers = { s.peers with service := .learning, learning := some 0, status := some 0 })
        ∧ (r = .status ∨ s.peers.service ≠ .announcing → t.peers = s.peers))
    ∧ ∀ f rest, s.line.tx = .sending → s.line.inHand = some .permit → s.line.permits = f :: rest →
        s.permit.queue = [] ∨ s.permit.phase ≠ .idle →
        (s.permit.owed = .none ∧ s.permit.deferred = [])
          ∨ (rest.length < 8 ∧ s.line.duplicate = false ∧ s.loader.listenOnly = false) →
      let current : Prop := s.permit.phase = .asking ∧ ∃ waits p up, f = .ask s.permit.tag waits p up
      let own : List PermitFrame :=
        match s.permit.owed with
        | .none => []
        | .status => [.status]
        | .release => [.release s.permit.tag]
      let grants : Nat :=
        if s.permit.phase = .idle ∨ s.permit.phase = .backoff then min s.permit.deferred.length (6 - (rest ++ own).length) else 0
      ∃ t, exec .frameSent s = .next t
        ∧ t = { s with line := t.line, permit := t.permit, lamps := t.lamps, freeCount := t.freeCount }
        ∧ t.line.permits = rest ++ own ++ (s.permit.deferred.take grants).map (fun e => .grant e.1 e.2)
        ∧ t.line.tx ≠ .sending ∧ t.line.rx = .discard ∧ t.line.deferrals = 0 ∧ t.line.promoted = false
        ∧ t.permit = { s.permit with
            free := 8 - (rest ++ own).length - grants, ask := t.permit.ask, owed := .none, deferred := s.permit.deferred.drop grants }
        ∧ (current → s.permit.ask = none → t.permit.ask = some 0)
        ∧ (¬ current → t.permit.ask = s.permit.ask)

/-- R131: the REPLY store holds at most 4 RECORD frames; a READ that arrives while it holds 4 is dropped without any reply and leaves
the list as it was, and any other is answered at once with its content fixed. -/
def Obligations.ReplyStore : Prop :=
  (∀ s t : State, s.line.replies.length ≤ 4 → step s = .next t → t.line.replies.length ≤ 4)
  ∧ ∀ (source record inst part : Nat) (w : Work),
      (w.line.replies.length < 4 →
        (answerRead source record inst part w).line.replies = w.line.replies ++ [⟨source, recordPayload w record inst part⟩]
          ∧ (answerRead source record inst part w).loader.dropped = w.loader.dropped)
      ∧ (w.line.replies.length = 4 →
        answerRead source record inst part w =
          { w with loader := { w.loader with dropped := min 65535 (w.loader.dropped + 1) } })

/-- R116 to R120: a frame of n payload bytes puts ten bits for each of its 8 + n characters on the line: for each a start bit at the space
level, eight data bits, most significant first, and a stop bit at the mark level. Every frame the part sends is read back as it was sent:
its source, destination, kind and payload with a good check, and from the payload the fields it was composed from. A PRESENT of a gateway
is read where its module count and rating are 0, and is malformed otherwise. -/
def Obligations.FramesReadBack : Prop :=
  (∀ (source dest kind : Nat) (payload : List Byte), source < 256 → dest < 256 → kind < 256 → payload.length ≤ 48 →
    parseFrame (frameChars source dest kind payload) = ⟨source, dest, kind, payload, true⟩
      ∧ frameEnd (frameChars source dest kind payload) = some (frameChars source dest kind payload).length
      ∧ badStart (frameChars source dest kind payload) = false
      ∧ (frameBits (frameChars source dest kind payload)).length = 10 * (8 + payload.length))
  ∧ (∀ (chars : List Byte) (i : Nat) (c : Byte), chars[i]? = some c →
      (frameBits chars)[10 * i]? = some false ∧ (frameBits chars)[10 * i + 9]? = some true
        ∧ ∀ k, k < 8 → (frameBits chars)[10 * i + 1 + k]? = some (c.getLsbD (7 - k)))
  ∧ (∀ (f : StatusFields) (level : HazardLevel), f.dis ≤ 2000 → f.chg ≤ 2000 → f.soc ≤ 1000 → f.aux ≤ 30 →
      -2000 ≤ f.setpoint → f.setpoint ≤ 2000 →
      decodeMessage 2 (statusPayload f level) = some (.status .container f level))
  ∧ (∀ a : Announced, a.digest < 65536 → a.moduleCount ≤ 16 → a.rating ≤ 2000 →
      decodeMessage 1 (presentPayload a) = some (.present .container a))
  ∧ (∀ digest m rating : Nat, digest < 65536 → m < 256 → rating < 65536 →
      decodeMessage 1 (beBytes 1 2 ++ beBytes 2 digest ++ beBytes 1 m ++ beBytes 2 rating) =
        if m = 0 ∧ rating = 0 then some (.present .gateway ⟨digest, 0, 0⟩) else none)
  ∧ (∀ f : HazardFrame, f.set = Indication.all.filter (fun i => decide (i ∈ f.set)) → f.countdown ≤ 60 →
      decodeMessage 3 (hazardPayload f) = some (.hazard f.level ⟨f.set, f.firstCause, f.countdown⟩))
  ∧ (∀ tag waits purpose increase, tag ≤ 15 → waits ≤ 7 → increase ≤ 30 →
      decodeMessage 5 (askPayload tag waits purpose increase) = some (.ask tag waits purpose increase))
  ∧ ∀ tag, tag ≤ 15 → decodeMessage 6 (beBytes 1 tag) = some (.grant tag) ∧ decodeMessage 7 (beBytes 1 tag) = some (.defer tag)
      ∧ decodeMessage 8 (beBytes 1 tag) = some (.release tag)

/-! ## Windows, peers and service -/

/-- R133, R135, R138, R143 to R146: the line's error window, which in the listen-only start runs without a test, the ageing of the peers,
the staleness of the dispatch, and the listening, learning and STATUS timers. (The staleness timer and the learning timer stop at their
expiry: the model's choice, log entry 24.) R177: a dispatch that becomes STALE aborts a sequence with exit cause STOP. -/
def Obligations.LineAndPeerTimers : Prop :=
  ∀ s : State,
    (s.line.window ≠ none → s.loader.listenOnly = true →
      ∃ l n, exec .errorWindowEnd s = .next { s with line := { s.line with errors := 0, window := some 0 }, lamps := l, freeCount := n })
    ∧ (s.line.window ≠ none → s.loader.listenOnly = false → s.line.degraded = false ∨ 5 ≤ s.line.errors →
      ∃ l n, exec .errorWindowEnd s = .next { s with
        line := { s.line with degraded := s.line.degraded || decide (20 ≤ s.line.errors), errors := 0, window := some 0 }
        lamps := l, freeCount := n })
    ∧ (s.line.window ≠ none → s.loader.listenOnly = false → s.line.degraded = true → s.line.errors ≤ 4 →
      ∃ t, exec .errorWindowEnd s = .next t ∧ s.ClientFrame t
        ∧ t.line.degraded = false ∧ t.line.errors = 0 ∧ t.line.window = some 0)
    ∧ (s.peers.ageing ≠ none →
      ∃ t, exec .peerAgeingTick s = .next t
        ∧ t = { s with
            peers := { s.peers with ageing := some 0, entries := t.peers.entries }, lamps := t.lamps, freeCount := t.freeCount }
        ∧ t.peers.entries.length = s.peers.entries.length
        ∧ ∀ (i : Nat) (e e' : PeerEntry), s.peers.entries[i]? = some e → t.peers.entries[i]? = some e' →
            e'.kind = e.kind ∧ e'.status = e.status ∧ e'.level = e.level ∧ e'.frames = e.frames ∧ e'.digest = e.digest
            ∧ (e.presence = .empty → e'.presence = .empty ∧ e'.age = e.age)
            ∧ (e.presence ≠ .empty → e'.age = min 65535 (e.age + 1))
            ∧ (e.presence = .present → (e'.presence = if 29 ≤ e.age then .silent else .present))
            ∧ (e.presence = .silent → (e'.presence = if 99 ≤ e.age then .absent else .silent))
            ∧ (e.presence = .absent → e'.presence = .absent))
    ∧ (s.peers.dispatch.staleness ≠ none →
      ∃ t, exec .stalenessTimerExpiry s = .next t
        ∧ State.ClientFrame { s with
            peers := { s.peers with dispatch := { s.peers.dispatch with condition := .stale, staleness := none } } } t
        ∧ (s.conn.phase = .connected → s.peers.dispatch.mode ≠ some .stop → t.conn = s.conn)
        ∧ (s.Configured → s.conn.phase = .precharging ∨ s.conn.phase = .dcClosed →
            t.conn.phase = .opened ∧ t.DrivesOpen ∧ t.conn.lastExit = some ⟨.stop, s.conn.phase, s.loader.uptime⟩))
    ∧ (s.peers.listening ≠ none → s.line.duplicate = false →
      ∃ t, exec .listeningTimerExpiry s = .next t
        ∧ t = { s with
            line := t.line, peers := { s.peers with listening := none, service := .announcing }
            lamps := t.lamps, freeCount := t.freeCount }
        ∧ t.line.routine = (if .present ∈ s.line.routine then s.line.routine else s.line.routine ++ [.present]))
    ∧ (s.peers.learning ≠ none →
      ∃ t, exec .learningTimerExpiry s = .next t
        ∧ State.ClientFrame { s with peers := { s.peers with learning := none, service := .inService } } t)
    ∧ (s.peers.status ≠ none → s.line.duplicate = false →
      ∃ t, exec .statusTimerExpiry s = .next t
        ∧ t = { s with line := t.line, peers := { s.peers with status := some 0 }, lamps := t.lamps, freeCount := t.freeCount }
        ∧ (s.line.tx ≠ .sending →
            t.line.routine = (if .status ∈ s.line.routine then s.line.routine else s.line.routine ++ [.status])))

/-! ## The start permit -/

/-- R152 to R159, R162, R177: the permit's opening, checks and limits. At the end of a back-off an ask is opened for the oldest need where
every condition holds, and not otherwise: with a new tag, awaiting each container of the peer table that is PRESENT or SILENT and not
last heard at ALARM or above; it is placed in the PERMIT store, and the permit is held at once where no station is awaited. At 1 s an
awaited peer that is PRESENT abandons the ask, and silent ones are dropped, which gives the permit where no peer defers; at 30 s a PRESENT
deferring peer abandons it, and otherwise the permit is held. An abandonment owes a RELEASE, placed ahead of the GRANTs owed, each of them
while 3 places are free. A hold ends at its limit, which aborts a sequence as a counted failure and places a STATUS ahead of the GRANTs
owed. R60 to R62, R164: a hold for a thermal need makes the aux budget check, and takes the step or starts the retry timer (that a
start is complete at once where the run feedback is active already, and that the compressor is switched on although the minimum-off timer
runs, are the model's choices, log entry 23); a level that reaches ALARM empties the queue, abandons an ask and clears a hold. -/
def Obligations.PermitTimers : Prop :=
  ∀ s : State,
    let owedGrants : List PermitFrame := (s.permit.deferred.take (s.permit.free - 3)).map fun e => .grant e.1 e.2
    let storeTakes : Prop := 1 ≤ s.permit.free ∧ s.permit.free + s.line.permits.length ≤ 8 ∧ s.line.duplicate = false
      ∧ s.loader.listenOnly = false
    let abandoned (t : State) : Prop :=
      s.ClientFrame t ∧ t.permit.phase = .backoff ∧ t.permit.backoff = some 0 ∧ t.permit.ask = none ∧ t.permit.awaited = []
        ∧ t.permit.deferredBy = [] ∧ t.permit.waits = min 7 (s.permit.waits + 1) ∧ t.permit.queue = s.permit.queue
        ∧ t.conn = s.conn ∧ t.thermal = s.thermal
        ∧ (storeTakes →
            t.line.permits = s.line.permits ++ .release s.permit.tag :: owedGrants ∧ t.permit.owed = .none
              ∧ t.permit.deferred = s.permit.deferred.drop (s.permit.free - 3))
        ∧ (s.permit.free = 0 → s.line.duplicate = false →
            t.line.permits = s.line.permits ∧ t.permit.owed = .release ∧ t.permit.deferred = s.permit.deferred)
    let present (n : Nat) : Prop := (s.peers.entries.getD (n - 1) .reset).presence = .present
    let held (need : Need) (rest : List Need) (s' t : State) : Prop :=
      t = { s' with permit := t.permit, conn := t.conn, lamps := t.lamps, freeCount := t.freeCount }
        ∧ t.permit = { s'.permit with
            phase := .holding, queue := rest, served := some need, heldAt := s.loader.uptime, waits := 0, awaited := []
            deferredBy := [], hold := some 0, ask := none }
        ∧ t.conn.phase = .precharging ∧ t.conn.stateTimer = some 0 ∧ t.conn.drives = ⟨true, true, false, false⟩
        ∧ t.conn.threshold = some (stringVoltage s.scan.summary * 95 / 100)
    (s.permit.phase = .asking → s.permit.ask ≠ none → (∃ n ∈ s.permit.awaited, present n) →
      ∃ t, exec .askOneSecondCheck s = .next t ∧ abandoned t)
    ∧ (s.permit.phase = .asking → s.permit.ask ≠ none → (∀ n ∈ s.permit.awaited, ¬ present n) → s.permit.deferredBy ≠ [] →
      ∃ l n, exec .askOneSecondCheck s = .next { s with permit := { s.permit with awaited := [] }, lamps := l, freeCount := n })
    ∧ (s.permit.phase = .asking → s.permit.ask ≠ none → (∃ n ∈ s.permit.deferredBy, present n) →
      ∃ t, exec .askThirtySecondCheck s = .next t ∧ abandoned t)
    ∧ (∀ need rest, s.permit.phase = .asking → s.permit.ask ≠ none → s.permit.queue = need :: rest → need.purpose = .precharge →
        s.conn.phase = .waitPermit →
      ((∀ n ∈ s.permit.deferredBy, ¬ present n) → ∃ t, exec .askThirtySecondCheck s = .next t ∧ held need rest s t)
      ∧ ((∀ n ∈ s.permit.awaited, ¬ present n) → s.permit.deferredBy = [] →
          ∃ t, exec .askOneSecondCheck s = .next t ∧ held need rest s t))
    ∧ (∀ need want, s.permit.phase = .asking → s.permit.ask ≠ none → (∀ n ∈ s.permit.deferredBy, ¬ present n) →
        s.permit.queue = [need] → need.purpose ≠ .precharge → s.thermal.need = .waiting → s.thermal.wanted = some want →
        s.thermal.forced = .none → s.RowInForce → storeTakes →
      let released (outcome : HoldOutcome) (t : State) : Prop :=
        t.permit.phase = .idle ∧ t.permit.served = none ∧ t.permit.queue = [] ∧ t.permit.waits = 0
          ∧ t.permit.lastHold = some ⟨need.purpose, outcome, s.loader.uptime, s.loader.uptime⟩
          ∧ t.line.permits = s.line.permits ++ .status :: owedGrants
      let starts : Prop := (want = .cool1 ∨ want = .cool2) ∧ s.thermal.compressor = false ∧ s.thermal.compressorFailed = false
      ∃ t check, exec .askThirtySecondCheck s = .next t ∧ s.ClientFrame t ∧ t.conn = s.conn
        ∧ t.thermal.lastAux = some check ∧ check.limit = s.loader.cfg.auxLimit ∧ check.uptime = s.loader.uptime
        ∧ check.own = (match want with | .off => 0 | .circulate => 2 | .cool1 => 18 | .cool2 => 30 | .heat => 12)
        ∧ check.peerSum = sumOf (s.peers.entries.map fun e =>
            if e.kind = .container ∧ (e.presence = .present ∨ e.presence = .silent) then (e.status.map (·.aux)).getD 0 else 0)
        ∧ (check.pass = true ↔ check.peerSum + check.own ≤ check.limit)
        ∧ (check.pass = false →
            t.thermal.stage = s.thermal.stage ∧ t.thermal.need = .retry ∧ t.thermal.retry = some 0 ∧ t.thermal.wanted = some want
              ∧ t.thermal.auxWait = s.thermal.auxWait ∧ released .notStarted t)
        ∧ (check.pass = true →
            t.thermal.stage = want ∧ t.thermal.wanted = none ∧ t.thermal.auxWait = false ∧ t.RowInForce
              ∧ (starts → t.thermal.compressor = true ∧ t.thermal.minOn = some 0)
              ∧ (starts → s.thermal.feedback = false →
                  t.thermal.need = .starting ∧ t.thermal.monitor = some 0 ∧ t.permit.phase = .holding
                    ∧ t.permit.served = some need)
              ∧ (¬ starts ∨ s.thermal.feedback = true → t.thermal.need = .none ∧ released .started t)))
    ∧ (∀ need, s.permit.phase = .holding → s.permit.hold ≠ none → s.permit.served = some need → need.purpose = .precharge →
        s.permit.queue = [] → s.line.duplicate = false →
      ∃ t, exec .holdLimitExpiry s = .next t ∧ s.ClientFrame t ∧ t.permit.phase = .idle ∧ t.permit.served = none
        ∧ t.permit.lastHold = some ⟨.precharge, .ended, s.permit.heldAt, s.loader.uptime⟩
        ∧ (storeTakes → s.line.permits ++ .status :: owedGrants <+: t.line.permits ∧ t.permit.owed = .none)
        ∧ (s.conn.phase = .precharging ∨ s.conn.phase = .dcClosed → s.conn.failures < 2 →
            t.conn.phase = .tripped ∧ t.DrivesOpen ∧ t.conn.failures = s.conn.failures + 1
              ∧ t.conn.lastExit = some ⟨.holdEnded, s.conn.phase, s.loader.uptime⟩)
        ∧ (s.conn.phase = .connected → t.conn = s.conn))
    ∧ (s.permit.phase = .backoff → s.permit.backoff ≠ none → s.permit.owed = .none → s.permit.deferred = [] →
      let idle : PermitState := { s.permit with phase := .idle, backoff := none }
      let awaits (n : Nat) : Prop := 1 ≤ n ∧ n ≤ 30 ∧ ∃ e, s.peers.entries[n - 1]? = some e ∧ e.kind = .container
        ∧ (e.presence = .present ∨ e.presence = .silent) ∧ ∀ l, e.level = some l → l.isAlarm = false
      (s.permit.queue = [] ∨ s.permit.free = 0 ∨ s.peers.service ≠ .inService ∨ s.line.degraded = true ∨ s.line.duplicate = true
          ∨ s.hazard.level.isAlarm = true ∨ s.loader.listenOnly = true →
        ∃ l n, exec .backoffExpiry s = .next { s with permit := idle, lamps := l, freeCount := n })
      ∧ ∀ need rest, s.Running → s.permit.queue = need :: rest → s.peers.service = .inService → s.line.degraded = false →
          s.hazard.level.isAlarm = false → storeTakes →
        let tag := (s.permit.tag + 1) % 16
        let ask : PermitFrame := .ask tag s.permit.waits need.purpose need.increase
        ((∃ n, awaits n) →
          ∃ t, exec .backoffExpiry s = .next t
            ∧ t = { s with
                line := t.line, lamps := t.lamps, freeCount := t.freeCount
                permit := { idle with
                  phase := .asking, tag := tag, awaited := t.permit.awaited, deferredBy := [], free := s.permit.free - 1 } }
            ∧ t.line.permits = s.line.permits ++ [ask] ∧ ∀ n, n ∈ t.permit.awaited ↔ awaits n)
        ∧ ((∀ n, ¬ awaits n) → need.purpose = .precharge → s.conn.phase = .waitPermit →
          ∃ t, exec .backoffExpiry s = .next t
            ∧ held need rest { s with line := t.line, permit := { idle with tag := tag, free := s.permit.free - 1 } } t
            ∧ t.line.permits = s.line.permits ++ [ask]))
    ∧ (s.hazard.escalation ≠ none → s.hazard.level.isAlarm = false → s.permit.phase = .holding ∨ s.permit.served = none →
      ∃ t, exec .escalationTimerExpiry s = .next t ∧ t.permit.queue = [] ∧ t.permit.served = none
        ∧ (s.permit.phase = .asking → t.permit.phase = .backoff ∧ t.permit.awaited = [] ∧ t.permit.deferredBy = [])
        ∧ (∀ need, s.permit.phase = .holding → s.permit.served = some need →
            t.permit.phase = .idle
              ∧ t.permit.lastHold = some ⟨need.purpose, .cleared, s.permit.heldAt, s.loader.uptime⟩))

/-- R160: of two stations that ask and await each other exactly one is answered GRANT; a station that holds the permit, or asks and does
not await the asker, grants none, and one that neither asks nor holds, or is at ALARM or above, grants every ask. R159 to R161: an ASK is
recorded and its answer placed, with its tag, and the asker leaves or joins the deferred list; with no free place the answer counts as
dropped (the list then stays as it was and the last ask heard shows the answer due: the model's choice, log entry 22; that GRANTs owed are
not placed while ASKING or HOLDING is DEDUCED, log entry 16). R154, R161: a GRANT and a DEFER with the current tag move their source
between the sets of an asking station, which holds the permit once both are empty; others change nothing; a RELEASE takes its source's
entry of equal tag off the list. -/
def Obligations.MutualAsksOneGrant : Prop :=
  (∀ a b : Work, a.own ≠ b.own → a.permit.phase = .asking → b.permit.phase = .asking → a.hazard.level.isAlarm = false →
    b.hazard.level.isAlarm = false → b.own ∈ a.permit.awaited → a.own ∈ b.permit.awaited →
    (grantsAsk a b.own b.permit.waits = true ↔ grantsAsk b a.own a.permit.waits = false))
  ∧ (∀ (w : Work) (source waits : Nat),
      (w.hazard.level.isAlarm = true → grantsAsk w source waits = true)
      ∧ (w.hazard.level.isAlarm = false → w.permit.phase = .holding → grantsAsk w source waits = false)
      ∧ (w.hazard.level.isAlarm = false → w.permit.phase = .asking → source ∉ w.permit.awaited → grantsAsk w source waits = false)
      ∧ (w.hazard.level.isAlarm = false → w.permit.phase = .asking → source ∈ w.permit.awaited →
          (grantsAsk w source waits = true ↔
            w.permit.waits < waits ∨ (waits = w.permit.waits ∧ source < w.own)))
      ∧ (w.permit.phase = .idle ∨ w.permit.phase = .backoff → grantsAsk w source waits = true))
  ∧ ∀ (c : Byte) (s : State) (f : Frame), s.CompletesFrame c f → s.line.duplicate = false →
    let occupied : Prop := s.permit.phase = .asking ∨ s.permit.phase = .holding
    (∀ tag waits purpose increase, s.Accepts f (.ask tag waits purpose increase) →
      ∃ t answer, exec (.frameComplete c) s = .next t ∧ answer = grantsAsk (Work.start s) f.source waits
        ∧ t.permit.lastAsk = some ⟨f.source, tag, waits, purpose, increase, answer, s.loader.uptime⟩
        ∧ (1 ≤ s.permit.free → s.permit.free + s.line.permits.length ≤ 8 →
            s.line.permits ++ [if answer then .grant f.source tag else .defer f.source tag] <+: t.line.permits
              ∧ t.permit.dropped = s.permit.dropped
              ∧ (occupied → s.permit.owed = .none →
                  t.permit.free = s.permit.free - 1 ∧ t.permit.phase = s.permit.phase
                    ∧ t.permit.deferred =
                      if answer then s.permit.deferred.filter fun e => decide (e.1 ≠ f.source)
                      else if s.permit.deferred.any (fun e => e.1 == f.source) then
                        s.permit.deferred.map fun e => if e.1 = f.source then (f.source, tag) else e
                      else s.permit.deferred ++ [(f.source, tag)]))
        ∧ (s.permit.free = 0 →
            t.permit = { s.permit with dropped := min 255 (s.permit.dropped + 1), lastAsk := t.permit.lastAsk }
              ∧ t.line.permits = s.line.permits))
    ∧ (∀ tag, s.Accepts f (.grant tag) →
      (s.permit.phase ≠ .asking ∨ tag ≠ s.permit.tag →
        ∃ t, exec (.frameComplete c) s = .next t ∧ t.permit = s.permit ∧ t.conn = s.conn ∧ t.thermal = s.thermal)
      ∧ (s.permit.phase = .asking → tag = s.permit.tag →
        let awaited := s.permit.awaited.filter (· ≠ f.source)
        let deferredBy := s.permit.deferredBy.filter (· ≠ f.source)
        (awaited ≠ [] ∨ deferredBy ≠ [] →
          ∃ t, exec (.frameComplete c) s = .next t ∧ t.permit = { s.permit with awaited := awaited, deferredBy := deferredBy }
            ∧ t.conn = s.conn ∧ t.thermal = s.thermal)
        ∧ (∀ need rest, awaited = [] → deferredBy = [] → s.permit.queue = need :: rest → need.purpose = .precharge →
            s.conn.phase = .waitPermit →
          ∃ t, exec (.frameComplete c) s = .next t ∧ t.conn.phase = .precharging
            ∧ t.permit = { s.permit with
                phase := .holding, queue := rest, served := some need, heldAt := s.loader.uptime, waits := 0, awaited := []
                deferredBy := [], hold := some 0, ask := none })))
    ∧ (∀ tag, s.Accepts f (.defer tag) →
      (s.permit.phase ≠ .asking ∨ tag ≠ s.permit.tag →
        ∃ t, exec (.frameComplete c) s = .next t ∧ t.permit = s.permit ∧ t.conn = s.conn ∧ t.thermal = s.thermal)
      ∧ (s.permit.phase = .asking → tag = s.permit.tag →
        ∃ t, exec (.frameComplete c) s = .next t ∧ t.conn = s.conn ∧ t.thermal = s.thermal
          ∧ t.permit = { s.permit with
              awaited := s.permit.awaited.filter (· ≠ f.source)
              deferredBy := if f.source ∈ s.permit.deferredBy then s.permit.deferredBy else s.permit.deferredBy ++ [f.source] }))
    ∧ ∀ tag, s.Accepts f (.release tag) → s.permit.phase ≠ .idle ∨ s.permit.queue = [] →
        ∃ t, exec (.frameComplete c) s = .next t ∧ t.conn = s.conn ∧ t.thermal = s.thermal
          ∧ t.permit = { s.permit with deferred := s.permit.deferred.filter fun e => decide (e ≠ (f.source, tag)) }
end

