-- ==== Sys2Proof/Laws/State.lean ====
section
/-! SUPPORT. What each update of one block does to every field: one lemma per field per update, true by `rfl`. -/

set_option Elab.async false

namespace Sys2Proof.Machine

/-! ## `updateConn` -/

@[simp] theorem updateConn_loader (f : ConnState → ConnState) (w : Work) : (updateConn f w).loader = w.loader := rfl
@[simp] theorem updateConn_scan (f : ConnState → ConnState) (w : Work) : (updateConn f w).scan = w.scan := rfl
@[simp] theorem updateConn_analog (f : ConnState → ConnState) (w : Work) : (updateConn f w).analog = w.analog := rfl
@[simp] theorem updateConn_charge (f : ConnState → ConnState) (w : Work) : (updateConn f w).charge = w.charge := rfl
@[simp] theorem updateConn_balance (f : ConnState → ConnState) (w : Work) : (updateConn f w).balance = w.balance := rfl
@[simp] theorem updateConn_thermal (f : ConnState → ConnState) (w : Work) : (updateConn f w).thermal = w.thermal := rfl
@[simp] theorem updateConn_hazard (f : ConnState → ConnState) (w : Work) : (updateConn f w).hazard = w.hazard := rfl
@[simp] theorem updateConn_limit (f : ConnState → ConnState) (w : Work) : (updateConn f w).limit = w.limit := rfl
@[simp] theorem updateConn_line (f : ConnState → ConnState) (w : Work) : (updateConn f w).line = w.line := rfl
@[simp] theorem updateConn_peers (f : ConnState → ConnState) (w : Work) : (updateConn f w).peers = w.peers := rfl
@[simp] theorem updateConn_permit (f : ConnState → ConnState) (w : Work) : (updateConn f w).permit = w.permit := rfl
@[simp] theorem updateConn_conn (f : ConnState → ConnState) (w : Work) : (updateConn f w).conn = f w.conn := rfl
@[simp] theorem updateConn_key (f : ConnState → ConnState) (w : Work) : (updateConn f w).key = w.key := rfl
@[simp] theorem updateConn_lamps (f : ConnState → ConnState) (w : Work) : (updateConn f w).lamps = w.lamps := rfl
@[simp] theorem updateConn_mem (f : ConnState → ConnState) (w : Work) : (updateConn f w).mem = w.mem := rfl
@[simp] theorem updateConn_freeCount (f : ConnState → ConnState) (w : Work) : (updateConn f w).freeCount = w.freeCount := rfl
@[simp] theorem updateConn_pending (f : ConnState → ConnState) (w : Work) : (updateConn f w).pending = w.pending := rfl
@[simp] theorem updateConn_notices (f : ConnState → ConnState) (w : Work) : (updateConn f w).notices = w.notices := rfl
@[simp] theorem updateConn_switched (f : ConnState → ConnState) (w : Work) : (updateConn f w).switched = w.switched := rfl

/-! ## `updateThermal` -/

@[simp] theorem updateThermal_loader (f : ThermalState → ThermalState) (w : Work) : (updateThermal f w).loader = w.loader := rfl
@[simp] theorem updateThermal_scan (f : ThermalState → ThermalState) (w : Work) : (updateThermal f w).scan = w.scan := rfl
@[simp] theorem updateThermal_analog (f : ThermalState → ThermalState) (w : Work) : (updateThermal f w).analog = w.analog := rfl
@[simp] theorem updateThermal_charge (f : ThermalState → ThermalState) (w : Work) : (updateThermal f w).charge = w.charge := rfl
@[simp] theorem updateThermal_balance (f : ThermalState → ThermalState) (w : Work) : (updateThermal f w).balance = w.balance := rfl
@[simp] theorem updateThermal_thermal (f : ThermalState → ThermalState) (w : Work) : (updateThermal f w).thermal = f w.thermal := rfl
@[simp] theorem updateThermal_hazard (f : ThermalState → ThermalState) (w : Work) : (updateThermal f w).hazard = w.hazard := rfl
@[simp] theorem updateThermal_limit (f : ThermalState → ThermalState) (w : Work) : (updateThermal f w).limit = w.limit := rfl
@[simp] theorem updateThermal_line (f : ThermalState → ThermalState) (w : Work) : (updateThermal f w).line = w.line := rfl
@[simp] theorem updateThermal_peers (f : ThermalState → ThermalState) (w : Work) : (updateThermal f w).peers = w.peers := rfl
@[simp] theorem updateThermal_permit (f : ThermalState → ThermalState) (w : Work) : (updateThermal f w).permit = w.permit := rfl
@[simp] theorem updateThermal_conn (f : ThermalState → ThermalState) (w : Work) : (updateThermal f w).conn = w.conn := rfl
@[simp] theorem updateThermal_key (f : ThermalState → ThermalState) (w : Work) : (updateThermal f w).key = w.key := rfl
@[simp] theorem updateThermal_lamps (f : ThermalState → ThermalState) (w : Work) : (updateThermal f w).lamps = w.lamps := rfl
@[simp] theorem updateThermal_mem (f : ThermalState → ThermalState) (w : Work) : (updateThermal f w).mem = w.mem := rfl
@[simp] theorem updateThermal_freeCount (f : ThermalState → ThermalState) (w : Work) : (updateThermal f w).freeCount = w.freeCount := rfl
@[simp] theorem updateThermal_pending (f : ThermalState → ThermalState) (w : Work) : (updateThermal f w).pending = w.pending := rfl
@[simp] theorem updateThermal_notices (f : ThermalState → ThermalState) (w : Work) : (updateThermal f w).notices = w.notices := rfl
@[simp] theorem updateThermal_switched (f : ThermalState → ThermalState) (w : Work) : (updateThermal f w).switched = w.switched := rfl

/-! ## `updateHazard` -/

@[simp] theorem updateHazard_loader (f : HazardState → HazardState) (w : Work) : (updateHazard f w).loader = w.loader := rfl
@[simp] theorem updateHazard_scan (f : HazardState → HazardState) (w : Work) : (updateHazard f w).scan = w.scan := rfl
@[simp] theorem updateHazard_analog (f : HazardState → HazardState) (w : Work) : (updateHazard f w).analog = w.analog := rfl
@[simp] theorem updateHazard_charge (f : HazardState → HazardState) (w : Work) : (updateHazard f w).charge = w.charge := rfl
@[simp] theorem updateHazard_balance (f : HazardState → HazardState) (w : Work) : (updateHazard f w).balance = w.balance := rfl
@[simp] theorem updateHazard_thermal (f : HazardState → HazardState) (w : Work) : (updateHazard f w).thermal = w.thermal := rfl
@[simp] theorem updateHazard_hazard (f : HazardState → HazardState) (w : Work) : (updateHazard f w).hazard = f w.hazard := rfl
@[simp] theorem updateHazard_limit (f : HazardState → HazardState) (w : Work) : (updateHazard f w).limit = w.limit := rfl
@[simp] theorem updateHazard_line (f : HazardState → HazardState) (w : Work) : (updateHazard f w).line = w.line := rfl
@[simp] theorem updateHazard_peers (f : HazardState → HazardState) (w : Work) : (updateHazard f w).peers = w.peers := rfl
@[simp] theorem updateHazard_permit (f : HazardState → HazardState) (w : Work) : (updateHazard f w).permit = w.permit := rfl
@[simp] theorem updateHazard_conn (f : HazardState → HazardState) (w : Work) : (updateHazard f w).conn = w.conn := rfl
@[simp] theorem updateHazard_key (f : HazardState → HazardState) (w : Work) : (updateHazard f w).key = w.key := rfl
@[simp] theorem updateHazard_lamps (f : HazardState → HazardState) (w : Work) : (updateHazard f w).lamps = w.lamps := rfl
@[simp] theorem updateHazard_mem (f : HazardState → HazardState) (w : Work) : (updateHazard f w).mem = w.mem := rfl
@[simp] theorem updateHazard_freeCount (f : HazardState → HazardState) (w : Work) : (updateHazard f w).freeCount = w.freeCount := rfl
@[simp] theorem updateHazard_pending (f : HazardState → HazardState) (w : Work) : (updateHazard f w).pending = w.pending := rfl
@[simp] theorem updateHazard_notices (f : HazardState → HazardState) (w : Work) : (updateHazard f w).notices = w.notices := rfl
@[simp] theorem updateHazard_switched (f : HazardState → HazardState) (w : Work) : (updateHazard f w).switched = w.switched := rfl

/-! ## `updateLoader` -/

@[simp] theorem updateLoader_loader (f : LoaderState → LoaderState) (w : Work) : (updateLoader f w).loader = f w.loader := rfl
@[simp] theorem updateLoader_scan (f : LoaderState → LoaderState) (w : Work) : (updateLoader f w).scan = w.scan := rfl
@[simp] theorem updateLoader_analog (f : LoaderState → LoaderState) (w : Work) : (updateLoader f w).analog = w.analog := rfl
@[simp] theorem updateLoader_charge (f : LoaderState → LoaderState) (w : Work) : (updateLoader f w).charge = w.charge := rfl
@[simp] theorem updateLoader_balance (f : LoaderState → LoaderState) (w : Work) : (updateLoader f w).balance = w.balance := rfl
@[simp] theorem updateLoader_thermal (f : LoaderState → LoaderState) (w : Work) : (updateLoader f w).thermal = w.thermal := rfl
@[simp] theorem updateLoader_hazard (f : LoaderState → LoaderState) (w : Work) : (updateLoader f w).hazard = w.hazard := rfl
@[simp] theorem updateLoader_limit (f : LoaderState → LoaderState) (w : Work) : (updateLoader f w).limit = w.limit := rfl
@[simp] theorem updateLoader_line (f : LoaderState → LoaderState) (w : Work) : (updateLoader f w).line = w.line := rfl
@[simp] theorem updateLoader_peers (f : LoaderState → LoaderState) (w : Work) : (updateLoader f w).peers = w.peers := rfl
@[simp] theorem updateLoader_permit (f : LoaderState → LoaderState) (w : Work) : (updateLoader f w).permit = w.permit := rfl
@[simp] theorem updateLoader_conn (f : LoaderState → LoaderState) (w : Work) : (updateLoader f w).conn = w.conn := rfl
@[simp] theorem updateLoader_key (f : LoaderState → LoaderState) (w : Work) : (updateLoader f w).key = w.key := rfl
@[simp] theorem updateLoader_lamps (f : LoaderState → LoaderState) (w : Work) : (updateLoader f w).lamps = w.lamps := rfl
@[simp] theorem updateLoader_mem (f : LoaderState → LoaderState) (w : Work) : (updateLoader f w).mem = w.mem := rfl
@[simp] theorem updateLoader_freeCount (f : LoaderState → LoaderState) (w : Work) : (updateLoader f w).freeCount = w.freeCount := rfl
@[simp] theorem updateLoader_pending (f : LoaderState → LoaderState) (w : Work) : (updateLoader f w).pending = w.pending := rfl
@[simp] theorem updateLoader_notices (f : LoaderState → LoaderState) (w : Work) : (updateLoader f w).notices = w.notices := rfl
@[simp] theorem updateLoader_switched (f : LoaderState → LoaderState) (w : Work) : (updateLoader f w).switched = w.switched := rfl

/-! ## `updateScan` -/

@[simp] theorem updateScan_loader (f : ScanState → ScanState) (w : Work) : (updateScan f w).loader = w.loader := rfl
@[simp] theorem updateScan_scan (f : ScanState → ScanState) (w : Work) : (updateScan f w).scan = f w.scan := rfl
@[simp] theorem updateScan_analog (f : ScanState → ScanState) (w : Work) : (updateScan f w).analog = w.analog := rfl
@[simp] theorem updateScan_charge (f : ScanState → ScanState) (w : Work) : (updateScan f w).charge = w.charge := rfl
@[simp] theorem updateScan_balance (f : ScanState → ScanState) (w : Work) : (updateScan f w).balance = w.balance := rfl
@[simp] theorem updateScan_thermal (f : ScanState → ScanState) (w : Work) : (updateScan f w).thermal = w.thermal := rfl
@[simp] theorem updateScan_hazard (f : ScanState → ScanState) (w : Work) : (updateScan f w).hazard = w.hazard := rfl
@[simp] theorem updateScan_limit (f : ScanState → ScanState) (w : Work) : (updateScan f w).limit = w.limit := rfl
@[simp] theorem updateScan_line (f : ScanState → ScanState) (w : Work) : (updateScan f w).line = w.line := rfl
@[simp] theorem updateScan_peers (f : ScanState → ScanState) (w : Work) : (updateScan f w).peers = w.peers := rfl
@[simp] theorem updateScan_permit (f : ScanState → ScanState) (w : Work) : (updateScan f w).permit = w.permit := rfl
@[simp] theorem updateScan_conn (f : ScanState → ScanState) (w : Work) : (updateScan f w).conn = w.conn := rfl
@[simp] theorem updateScan_key (f : ScanState → ScanState) (w : Work) : (updateScan f w).key = w.key := rfl
@[simp] theorem updateScan_lamps (f : ScanState → ScanState) (w : Work) : (updateScan f w).lamps = w.lamps := rfl
@[simp] theorem updateScan_mem (f : ScanState → ScanState) (w : Work) : (updateScan f w).mem = w.mem := rfl
@[simp] theorem updateScan_freeCount (f : ScanState → ScanState) (w : Work) : (updateScan f w).freeCount = w.freeCount := rfl
@[simp] theorem updateScan_pending (f : ScanState → ScanState) (w : Work) : (updateScan f w).pending = w.pending := rfl
@[simp] theorem updateScan_notices (f : ScanState → ScanState) (w : Work) : (updateScan f w).notices = w.notices := rfl
@[simp] theorem updateScan_switched (f : ScanState → ScanState) (w : Work) : (updateScan f w).switched = w.switched := rfl

/-! ## `updateCharge` -/

@[simp] theorem updateCharge_loader (f : ChargeState → ChargeState) (w : Work) : (updateCharge f w).loader = w.loader := rfl
@[simp] theorem updateCharge_scan (f : ChargeState → ChargeState) (w : Work) : (updateCharge f w).scan = w.scan := rfl
@[simp] theorem updateCharge_analog (f : ChargeState → ChargeState) (w : Work) : (updateCharge f w).analog = w.analog := rfl
@[simp] theorem updateCharge_charge (f : ChargeState → ChargeState) (w : Work) : (updateCharge f w).charge = f w.charge := rfl
@[simp] theorem updateCharge_balance (f : ChargeState → ChargeState) (w : Work) : (updateCharge f w).balance = w.balance := rfl
@[simp] theorem updateCharge_thermal (f : ChargeState → ChargeState) (w : Work) : (updateCharge f w).thermal = w.thermal := rfl
@[simp] theorem updateCharge_hazard (f : ChargeState → ChargeState) (w : Work) : (updateCharge f w).hazard = w.hazard := rfl
@[simp] theorem updateCharge_limit (f : ChargeState → ChargeState) (w : Work) : (updateCharge f w).limit = w.limit := rfl
@[simp] theorem updateCharge_line (f : ChargeState → ChargeState) (w : Work) : (updateCharge f w).line = w.line := rfl
@[simp] theorem updateCharge_peers (f : ChargeState → ChargeState) (w : Work) : (updateCharge f w).peers = w.peers := rfl
@[simp] theorem updateCharge_permit (f : ChargeState → ChargeState) (w : Work) : (updateCharge f w).permit = w.permit := rfl
@[simp] theorem updateCharge_conn (f : ChargeState → ChargeState) (w : Work) : (updateCharge f w).conn = w.conn := rfl
@[simp] theorem updateCharge_key (f : ChargeState → ChargeState) (w : Work) : (updateCharge f w).key = w.key := rfl
@[simp] theorem updateCharge_lamps (f : ChargeState → ChargeState) (w : Work) : (updateCharge f w).lamps = w.lamps := rfl
@[simp] theorem updateCharge_mem (f : ChargeState → ChargeState) (w : Work) : (updateCharge f w).mem = w.mem := rfl
@[simp] theorem updateCharge_freeCount (f : ChargeState → ChargeState) (w : Work) : (updateCharge f w).freeCount = w.freeCount := rfl
@[simp] theorem updateCharge_pending (f : ChargeState → ChargeState) (w : Work) : (updateCharge f w).pending = w.pending := rfl
@[simp] theorem updateCharge_notices (f : ChargeState → ChargeState) (w : Work) : (updateCharge f w).notices = w.notices := rfl
@[simp] theorem updateCharge_switched (f : ChargeState → ChargeState) (w : Work) : (updateCharge f w).switched = w.switched := rfl

/-! ## `updateBalance` -/

@[simp] theorem updateBalance_loader (f : BalanceState → BalanceState) (w : Work) : (updateBalance f w).loader = w.loader := rfl
@[simp] theorem updateBalance_scan (f : BalanceState → BalanceState) (w : Work) : (updateBalance f w).scan = w.scan := rfl
@[simp] theorem updateBalance_analog (f : BalanceState → BalanceState) (w : Work) : (updateBalance f w).analog = w.analog := rfl
@[simp] theorem updateBalance_charge (f : BalanceState → BalanceState) (w : Work) : (updateBalance f w).charge = w.charge := rfl
@[simp] theorem updateBalance_balance (f : BalanceState → BalanceState) (w : Work) : (updateBalance f w).balance = f w.balance := rfl
@[simp] theorem updateBalance_thermal (f : BalanceState → BalanceState) (w : Work) : (updateBalance f w).thermal = w.thermal := rfl
@[simp] theorem updateBalance_hazard (f : BalanceState → BalanceState) (w : Work) : (updateBalance f w).hazard = w.hazard := rfl
@[simp] theorem updateBalance_limit (f : BalanceState → BalanceState) (w : Work) : (updateBalance f w).limit = w.limit := rfl
@[simp] theorem updateBalance_line (f : BalanceState → BalanceState) (w : Work) : (updateBalance f w).line = w.line := rfl
@[simp] theorem updateBalance_peers (f : BalanceState → BalanceState) (w : Work) : (updateBalance f w).peers = w.peers := rfl
@[simp] theorem updateBalance_permit (f : BalanceState → BalanceState) (w : Work) : (updateBalance f w).permit = w.permit := rfl
@[simp] theorem updateBalance_conn (f : BalanceState → BalanceState) (w : Work) : (updateBalance f w).conn = w.conn := rfl
@[simp] theorem updateBalance_key (f : BalanceState → BalanceState) (w : Work) : (updateBalance f w).key = w.key := rfl
@[simp] theorem updateBalance_lamps (f : BalanceState → BalanceState) (w : Work) : (updateBalance f w).lamps = w.lamps := rfl
@[simp] theorem updateBalance_mem (f : BalanceState → BalanceState) (w : Work) : (updateBalance f w).mem = w.mem := rfl
@[simp] theorem updateBalance_freeCount (f : BalanceState → BalanceState) (w : Work) : (updateBalance f w).freeCount = w.freeCount := rfl
@[simp] theorem updateBalance_pending (f : BalanceState → BalanceState) (w : Work) : (updateBalance f w).pending = w.pending := rfl
@[simp] theorem updateBalance_notices (f : BalanceState → BalanceState) (w : Work) : (updateBalance f w).notices = w.notices := rfl
@[simp] theorem updateBalance_switched (f : BalanceState → BalanceState) (w : Work) : (updateBalance f w).switched = w.switched := rfl

/-! ## `updateAnalog` -/

@[simp] theorem updateAnalog_loader (f : AnalogState → AnalogState) (w : Work) : (updateAnalog f w).loader = w.loader := rfl
@[simp] theorem updateAnalog_scan (f : AnalogState → AnalogState) (w : Work) : (updateAnalog f w).scan = w.scan := rfl
@[simp] theorem updateAnalog_analog (f : AnalogState → AnalogState) (w : Work) : (updateAnalog f w).analog = f w.analog := rfl
@[simp] theorem updateAnalog_charge (f : AnalogState → AnalogState) (w : Work) : (updateAnalog f w).charge = w.charge := rfl
@[simp] theorem updateAnalog_balance (f : AnalogState → AnalogState) (w : Work) : (updateAnalog f w).balance = w.balance := rfl
@[simp] theorem updateAnalog_thermal (f : AnalogState → AnalogState) (w : Work) : (updateAnalog f w).thermal = w.thermal := rfl
@[simp] theorem updateAnalog_hazard (f : AnalogState → AnalogState) (w : Work) : (updateAnalog f w).hazard = w.hazard := rfl
@[simp] theorem updateAnalog_limit (f : AnalogState → AnalogState) (w : Work) : (updateAnalog f w).limit = w.limit := rfl
@[simp] theorem updateAnalog_line (f : AnalogState → AnalogState) (w : Work) : (updateAnalog f w).line = w.line := rfl
@[simp] theorem updateAnalog_peers (f : AnalogState → AnalogState) (w : Work) : (updateAnalog f w).peers = w.peers := rfl
@[simp] theorem updateAnalog_permit (f : AnalogState → AnalogState) (w : Work) : (updateAnalog f w).permit = w.permit := rfl
@[simp] theorem updateAnalog_conn (f : AnalogState → AnalogState) (w : Work) : (updateAnalog f w).conn = w.conn := rfl
@[simp] theorem updateAnalog_key (f : AnalogState → AnalogState) (w : Work) : (updateAnalog f w).key = w.key := rfl
@[simp] theorem updateAnalog_lamps (f : AnalogState → AnalogState) (w : Work) : (updateAnalog f w).lamps = w.lamps := rfl
@[simp] theorem updateAnalog_mem (f : AnalogState → AnalogState) (w : Work) : (updateAnalog f w).mem = w.mem := rfl
@[simp] theorem updateAnalog_freeCount (f : AnalogState → AnalogState) (w : Work) : (updateAnalog f w).freeCount = w.freeCount := rfl
@[simp] theorem updateAnalog_pending (f : AnalogState → AnalogState) (w : Work) : (updateAnalog f w).pending = w.pending := rfl
@[simp] theorem updateAnalog_notices (f : AnalogState → AnalogState) (w : Work) : (updateAnalog f w).notices = w.notices := rfl
@[simp] theorem updateAnalog_switched (f : AnalogState → AnalogState) (w : Work) : (updateAnalog f w).switched = w.switched := rfl

/-! ## `updatePeers` -/

@[simp] theorem updatePeers_loader (f : PeerState → PeerState) (w : Work) : (updatePeers f w).loader = w.loader := rfl
@[simp] theorem updatePeers_scan (f : PeerState → PeerState) (w : Work) : (updatePeers f w).scan = w.scan := rfl
@[simp] theorem updatePeers_analog (f : PeerState → PeerState) (w : Work) : (updatePeers f w).analog = w.analog := rfl
@[simp] theorem updatePeers_charge (f : PeerState → PeerState) (w : Work) : (updatePeers f w).charge = w.charge := rfl
@[simp] theorem updatePeers_balance (f : PeerState → PeerState) (w : Work) : (updatePeers f w).balance = w.balance := rfl
@[simp] theorem updatePeers_thermal (f : PeerState → PeerState) (w : Work) : (updatePeers f w).thermal = w.thermal := rfl
@[simp] theorem updatePeers_hazard (f : PeerState → PeerState) (w : Work) : (updatePeers f w).hazard = w.hazard := rfl
@[simp] theorem updatePeers_limit (f : PeerState → PeerState) (w : Work) : (updatePeers f w).limit = w.limit := rfl
@[simp] theorem updatePeers_line (f : PeerState → PeerState) (w : Work) : (updatePeers f w).line = w.line := rfl
@[simp] theorem updatePeers_peers (f : PeerState → PeerState) (w : Work) : (updatePeers f w).peers = f w.peers := rfl
@[simp] theorem updatePeers_permit (f : PeerState → PeerState) (w : Work) : (updatePeers f w).permit = w.permit := rfl
@[simp] theorem updatePeers_conn (f : PeerState → PeerState) (w : Work) : (updatePeers f w).conn = w.conn := rfl
@[simp] theorem updatePeers_key (f : PeerState → PeerState) (w : Work) : (updatePeers f w).key = w.key := rfl
@[simp] theorem updatePeers_lamps (f : PeerState → PeerState) (w : Work) : (updatePeers f w).lamps = w.lamps := rfl
@[simp] theorem updatePeers_mem (f : PeerState → PeerState) (w : Work) : (updatePeers f w).mem = w.mem := rfl
@[simp] theorem updatePeers_freeCount (f : PeerState → PeerState) (w : Work) : (updatePeers f w).freeCount = w.freeCount := rfl
@[simp] theorem updatePeers_pending (f : PeerState → PeerState) (w : Work) : (updatePeers f w).pending = w.pending := rfl
@[simp] theorem updatePeers_notices (f : PeerState → PeerState) (w : Work) : (updatePeers f w).notices = w.notices := rfl
@[simp] theorem updatePeers_switched (f : PeerState → PeerState) (w : Work) : (updatePeers f w).switched = w.switched := rfl

/-! ## `changeLine` -/

@[simp] theorem changeLine_loader (f : LineState → LineState) (w : Work) : (changeLine f w).loader = w.loader := rfl
@[simp] theorem changeLine_scan (f : LineState → LineState) (w : Work) : (changeLine f w).scan = w.scan := rfl
@[simp] theorem changeLine_analog (f : LineState → LineState) (w : Work) : (changeLine f w).analog = w.analog := rfl
@[simp] theorem changeLine_charge (f : LineState → LineState) (w : Work) : (changeLine f w).charge = w.charge := rfl
@[simp] theorem changeLine_balance (f : LineState → LineState) (w : Work) : (changeLine f w).balance = w.balance := rfl
@[simp] theorem changeLine_thermal (f : LineState → LineState) (w : Work) : (changeLine f w).thermal = w.thermal := rfl
@[simp] theorem changeLine_hazard (f : LineState → LineState) (w : Work) : (changeLine f w).hazard = w.hazard := rfl
@[simp] theorem changeLine_limit (f : LineState → LineState) (w : Work) : (changeLine f w).limit = w.limit := rfl
@[simp] theorem changeLine_line (f : LineState → LineState) (w : Work) : (changeLine f w).line = f w.line := rfl
@[simp] theorem changeLine_peers (f : LineState → LineState) (w : Work) : (changeLine f w).peers = w.peers := rfl
@[simp] theorem changeLine_permit (f : LineState → LineState) (w : Work) : (changeLine f w).permit = w.permit := rfl
@[simp] theorem changeLine_conn (f : LineState → LineState) (w : Work) : (changeLine f w).conn = w.conn := rfl
@[simp] theorem changeLine_key (f : LineState → LineState) (w : Work) : (changeLine f w).key = w.key := rfl
@[simp] theorem changeLine_lamps (f : LineState → LineState) (w : Work) : (changeLine f w).lamps = w.lamps := rfl
@[simp] theorem changeLine_mem (f : LineState → LineState) (w : Work) : (changeLine f w).mem = w.mem := rfl
@[simp] theorem changeLine_freeCount (f : LineState → LineState) (w : Work) : (changeLine f w).freeCount = w.freeCount := rfl
@[simp] theorem changeLine_pending (f : LineState → LineState) (w : Work) : (changeLine f w).pending = w.pending := rfl
@[simp] theorem changeLine_notices (f : LineState → LineState) (w : Work) : (changeLine f w).notices = w.notices := rfl
@[simp] theorem changeLine_switched (f : LineState → LineState) (w : Work) : (changeLine f w).switched = w.switched := rfl

/-! ## `updatePermit` -/

@[simp] theorem updatePermit_loader (f : PermitState → PermitState) (w : Work) : (updatePermit f w).loader = w.loader := rfl
@[simp] theorem updatePermit_scan (f : PermitState → PermitState) (w : Work) : (updatePermit f w).scan = w.scan := rfl
@[simp] theorem updatePermit_analog (f : PermitState → PermitState) (w : Work) : (updatePermit f w).analog = w.analog := rfl
@[simp] theorem updatePermit_charge (f : PermitState → PermitState) (w : Work) : (updatePermit f w).charge = w.charge := rfl
@[simp] theorem updatePermit_balance (f : PermitState → PermitState) (w : Work) : (updatePermit f w).balance = w.balance := rfl
@[simp] theorem updatePermit_thermal (f : PermitState → PermitState) (w : Work) : (updatePermit f w).thermal = w.thermal := rfl
@[simp] theorem updatePermit_hazard (f : PermitState → PermitState) (w : Work) : (updatePermit f w).hazard = w.hazard := rfl
@[simp] theorem updatePermit_limit (f : PermitState → PermitState) (w : Work) : (updatePermit f w).limit = w.limit := rfl
@[simp] theorem updatePermit_line (f : PermitState → PermitState) (w : Work) : (updatePermit f w).line = w.line := rfl
@[simp] theorem updatePermit_peers (f : PermitState → PermitState) (w : Work) : (updatePermit f w).peers = w.peers := rfl
@[simp] theorem updatePermit_permit (f : PermitState → PermitState) (w : Work) : (updatePermit f w).permit = f w.permit := rfl
@[simp] theorem updatePermit_conn (f : PermitState → PermitState) (w : Work) : (updatePermit f w).conn = w.conn := rfl
@[simp] theorem updatePermit_key (f : PermitState → PermitState) (w : Work) : (updatePermit f w).key = w.key := rfl
@[simp] theorem updatePermit_lamps (f : PermitState → PermitState) (w : Work) : (updatePermit f w).lamps = w.lamps := rfl
@[simp] theorem updatePermit_mem (f : PermitState → PermitState) (w : Work) : (updatePermit f w).mem = w.mem := rfl
@[simp] theorem updatePermit_freeCount (f : PermitState → PermitState) (w : Work) : (updatePermit f w).freeCount = w.freeCount := rfl
@[simp] theorem updatePermit_pending (f : PermitState → PermitState) (w : Work) : (updatePermit f w).pending = w.pending := rfl
@[simp] theorem updatePermit_notices (f : PermitState → PermitState) (w : Work) : (updatePermit f w).notices = w.notices := rfl
@[simp] theorem updatePermit_switched (f : PermitState → PermitState) (w : Work) : (updatePermit f w).switched = w.switched := rfl

/-! ## `updateLimit` -/

@[simp] theorem updateLimit_loader (f : LimitState → LimitState) (w : Work) : (updateLimit f w).loader = w.loader := rfl
@[simp] theorem updateLimit_scan (f : LimitState → LimitState) (w : Work) : (updateLimit f w).scan = w.scan := rfl
@[simp] theorem updateLimit_analog (f : LimitState → LimitState) (w : Work) : (updateLimit f w).analog = w.analog := rfl
@[simp] theorem updateLimit_charge (f : LimitState → LimitState) (w : Work) : (updateLimit f w).charge = w.charge := rfl
@[simp] theorem updateLimit_balance (f : LimitState → LimitState) (w : Work) : (updateLimit f w).balance = w.balance := rfl
@[simp] theorem updateLimit_thermal (f : LimitState → LimitState) (w : Work) : (updateLimit f w).thermal = w.thermal := rfl
@[simp] theorem updateLimit_hazard (f : LimitState → LimitState) (w : Work) : (updateLimit f w).hazard = w.hazard := rfl
@[simp] theorem updateLimit_limit (f : LimitState → LimitState) (w : Work) : (updateLimit f w).limit = f w.limit := rfl
@[simp] theorem updateLimit_line (f : LimitState → LimitState) (w : Work) : (updateLimit f w).line = w.line := rfl
@[simp] theorem updateLimit_peers (f : LimitState → LimitState) (w : Work) : (updateLimit f w).peers = w.peers := rfl
@[simp] theorem updateLimit_permit (f : LimitState → LimitState) (w : Work) : (updateLimit f w).permit = w.permit := rfl
@[simp] theorem updateLimit_conn (f : LimitState → LimitState) (w : Work) : (updateLimit f w).conn = w.conn := rfl
@[simp] theorem updateLimit_key (f : LimitState → LimitState) (w : Work) : (updateLimit f w).key = w.key := rfl
@[simp] theorem updateLimit_lamps (f : LimitState → LimitState) (w : Work) : (updateLimit f w).lamps = w.lamps := rfl
@[simp] theorem updateLimit_mem (f : LimitState → LimitState) (w : Work) : (updateLimit f w).mem = w.mem := rfl
@[simp] theorem updateLimit_freeCount (f : LimitState → LimitState) (w : Work) : (updateLimit f w).freeCount = w.freeCount := rfl
@[simp] theorem updateLimit_pending (f : LimitState → LimitState) (w : Work) : (updateLimit f w).pending = w.pending := rfl
@[simp] theorem updateLimit_notices (f : LimitState → LimitState) (w : Work) : (updateLimit f w).notices = w.notices := rfl
@[simp] theorem updateLimit_switched (f : LimitState → LimitState) (w : Work) : (updateLimit f w).switched = w.switched := rfl

/-! ## `updateKey` -/

@[simp] theorem updateKey_loader (f : ContactInput → ContactInput) (w : Work) : (updateKey f w).loader = w.loader := rfl
@[simp] theorem updateKey_scan (f : ContactInput → ContactInput) (w : Work) : (updateKey f w).scan = w.scan := rfl
@[simp] theorem updateKey_analog (f : ContactInput → ContactInput) (w : Work) : (updateKey f w).analog = w.analog := rfl
@[simp] theorem updateKey_charge (f : ContactInput → ContactInput) (w : Work) : (updateKey f w).charge = w.charge := rfl
@[simp] theorem updateKey_balance (f : ContactInput → ContactInput) (w : Work) : (updateKey f w).balance = w.balance := rfl
@[simp] theorem updateKey_thermal (f : ContactInput → ContactInput) (w : Work) : (updateKey f w).thermal = w.thermal := rfl
@[simp] theorem updateKey_hazard (f : ContactInput → ContactInput) (w : Work) : (updateKey f w).hazard = w.hazard := rfl
@[simp] theorem updateKey_limit (f : ContactInput → ContactInput) (w : Work) : (updateKey f w).limit = w.limit := rfl
@[simp] theorem updateKey_line (f : ContactInput → ContactInput) (w : Work) : (updateKey f w).line = w.line := rfl
@[simp] theorem updateKey_peers (f : ContactInput → ContactInput) (w : Work) : (updateKey f w).peers = w.peers := rfl
@[simp] theorem updateKey_permit (f : ContactInput → ContactInput) (w : Work) : (updateKey f w).permit = w.permit := rfl
@[simp] theorem updateKey_conn (f : ContactInput → ContactInput) (w : Work) : (updateKey f w).conn = w.conn := rfl
@[simp] theorem updateKey_key (f : ContactInput → ContactInput) (w : Work) : (updateKey f w).key = f w.key := rfl
@[simp] theorem updateKey_lamps (f : ContactInput → ContactInput) (w : Work) : (updateKey f w).lamps = w.lamps := rfl
@[simp] theorem updateKey_mem (f : ContactInput → ContactInput) (w : Work) : (updateKey f w).mem = w.mem := rfl
@[simp] theorem updateKey_freeCount (f : ContactInput → ContactInput) (w : Work) : (updateKey f w).freeCount = w.freeCount := rfl
@[simp] theorem updateKey_pending (f : ContactInput → ContactInput) (w : Work) : (updateKey f w).pending = w.pending := rfl
@[simp] theorem updateKey_notices (f : ContactInput → ContactInput) (w : Work) : (updateKey f w).notices = w.notices := rfl
@[simp] theorem updateKey_switched (f : ContactInput → ContactInput) (w : Work) : (updateKey f w).switched = w.switched := rfl

/-! ## `updateLamps` -/

@[simp] theorem updateLamps_loader (f : Lamps → Lamps) (w : Work) : (updateLamps f w).loader = w.loader := rfl
@[simp] theorem updateLamps_scan (f : Lamps → Lamps) (w : Work) : (updateLamps f w).scan = w.scan := rfl
@[simp] theorem updateLamps_analog (f : Lamps → Lamps) (w : Work) : (updateLamps f w).analog = w.analog := rfl
@[simp] theorem updateLamps_charge (f : Lamps → Lamps) (w : Work) : (updateLamps f w).charge = w.charge := rfl
@[simp] theorem updateLamps_balance (f : Lamps → Lamps) (w : Work) : (updateLamps f w).balance = w.balance := rfl
@[simp] theorem updateLamps_thermal (f : Lamps → Lamps) (w : Work) : (updateLamps f w).thermal = w.thermal := rfl
@[simp] theorem updateLamps_hazard (f : Lamps → Lamps) (w : Work) : (updateLamps f w).hazard = w.hazard := rfl
@[simp] theorem updateLamps_limit (f : Lamps → Lamps) (w : Work) : (updateLamps f w).limit = w.limit := rfl
@[simp] theorem updateLamps_line (f : Lamps → Lamps) (w : Work) : (updateLamps f w).line = w.line := rfl
@[simp] theorem updateLamps_peers (f : Lamps → Lamps) (w : Work) : (updateLamps f w).peers = w.peers := rfl
@[simp] theorem updateLamps_permit (f : Lamps → Lamps) (w : Work) : (updateLamps f w).permit = w.permit := rfl
@[simp] theorem updateLamps_conn (f : Lamps → Lamps) (w : Work) : (updateLamps f w).conn = w.conn := rfl
@[simp] theorem updateLamps_key (f : Lamps → Lamps) (w : Work) : (updateLamps f w).key = w.key := rfl
@[simp] theorem updateLamps_lamps (f : Lamps → Lamps) (w : Work) : (updateLamps f w).lamps = f w.lamps := rfl
@[simp] theorem updateLamps_mem (f : Lamps → Lamps) (w : Work) : (updateLamps f w).mem = w.mem := rfl
@[simp] theorem updateLamps_freeCount (f : Lamps → Lamps) (w : Work) : (updateLamps f w).freeCount = w.freeCount := rfl
@[simp] theorem updateLamps_pending (f : Lamps → Lamps) (w : Work) : (updateLamps f w).pending = w.pending := rfl
@[simp] theorem updateLamps_notices (f : Lamps → Lamps) (w : Work) : (updateLamps f w).notices = w.notices := rfl
@[simp] theorem updateLamps_switched (f : Lamps → Lamps) (w : Work) : (updateLamps f w).switched = w.switched := rfl

/-! ## `updateMem` -/

@[simp] theorem updateMem_loader (f : Memory → Memory) (w : Work) : (updateMem f w).loader = w.loader := rfl
@[simp] theorem updateMem_scan (f : Memory → Memory) (w : Work) : (updateMem f w).scan = w.scan := rfl
@[simp] theorem updateMem_analog (f : Memory → Memory) (w : Work) : (updateMem f w).analog = w.analog := rfl
@[simp] theorem updateMem_charge (f : Memory → Memory) (w : Work) : (updateMem f w).charge = w.charge := rfl
@[simp] theorem updateMem_balance (f : Memory → Memory) (w : Work) : (updateMem f w).balance = w.balance := rfl
@[simp] theorem updateMem_thermal (f : Memory → Memory) (w : Work) : (updateMem f w).thermal = w.thermal := rfl
@[simp] theorem updateMem_hazard (f : Memory → Memory) (w : Work) : (updateMem f w).hazard = w.hazard := rfl
@[simp] theorem updateMem_limit (f : Memory → Memory) (w : Work) : (updateMem f w).limit = w.limit := rfl
@[simp] theorem updateMem_line (f : Memory → Memory) (w : Work) : (updateMem f w).line = w.line := rfl
@[simp] theorem updateMem_peers (f : Memory → Memory) (w : Work) : (updateMem f w).peers = w.peers := rfl
@[simp] theorem updateMem_permit (f : Memory → Memory) (w : Work) : (updateMem f w).permit = w.permit := rfl
@[simp] theorem updateMem_conn (f : Memory → Memory) (w : Work) : (updateMem f w).conn = w.conn := rfl
@[simp] theorem updateMem_key (f : Memory → Memory) (w : Work) : (updateMem f w).key = w.key := rfl
@[simp] theorem updateMem_lamps (f : Memory → Memory) (w : Work) : (updateMem f w).lamps = w.lamps := rfl
@[simp] theorem updateMem_mem (f : Memory → Memory) (w : Work) : (updateMem f w).mem = f w.mem := rfl
@[simp] theorem updateMem_freeCount (f : Memory → Memory) (w : Work) : (updateMem f w).freeCount = w.freeCount := rfl
@[simp] theorem updateMem_pending (f : Memory → Memory) (w : Work) : (updateMem f w).pending = w.pending := rfl
@[simp] theorem updateMem_notices (f : Memory → Memory) (w : Work) : (updateMem f w).notices = w.notices := rfl
@[simp] theorem updateMem_switched (f : Memory → Memory) (w : Work) : (updateMem f w).switched = w.switched := rfl

/-! ## `updateLine` -/

@[simp] theorem updateLine_loader (f : LineState → LineState) (w : Work) : (updateLine f w).loader = w.loader := rfl
@[simp] theorem updateLine_scan (f : LineState → LineState) (w : Work) : (updateLine f w).scan = w.scan := rfl
@[simp] theorem updateLine_analog (f : LineState → LineState) (w : Work) : (updateLine f w).analog = w.analog := rfl
@[simp] theorem updateLine_charge (f : LineState → LineState) (w : Work) : (updateLine f w).charge = w.charge := rfl
@[simp] theorem updateLine_balance (f : LineState → LineState) (w : Work) : (updateLine f w).balance = w.balance := rfl
@[simp] theorem updateLine_thermal (f : LineState → LineState) (w : Work) : (updateLine f w).thermal = w.thermal := rfl
@[simp] theorem updateLine_hazard (f : LineState → LineState) (w : Work) : (updateLine f w).hazard = w.hazard := rfl
@[simp] theorem updateLine_limit (f : LineState → LineState) (w : Work) : (updateLine f w).limit = w.limit := rfl
@[simp] theorem updateLine_line (f : LineState → LineState) (w : Work) : (updateLine f w).line = (f w.line).retake w.loader.listenOnly := rfl
@[simp] theorem updateLine_peers (f : LineState → LineState) (w : Work) : (updateLine f w).peers = w.peers := rfl
@[simp] theorem updateLine_permit (f : LineState → LineState) (w : Work) : (updateLine f w).permit = w.permit := rfl
@[simp] theorem updateLine_conn (f : LineState → LineState) (w : Work) : (updateLine f w).conn = w.conn := rfl
@[simp] theorem updateLine_key (f : LineState → LineState) (w : Work) : (updateLine f w).key = w.key := rfl
@[simp] theorem updateLine_lamps (f : LineState → LineState) (w : Work) : (updateLine f w).lamps = w.lamps := rfl
@[simp] theorem updateLine_mem (f : LineState → LineState) (w : Work) : (updateLine f w).mem = w.mem := rfl
@[simp] theorem updateLine_freeCount (f : LineState → LineState) (w : Work) : (updateLine f w).freeCount = w.freeCount := rfl
@[simp] theorem updateLine_pending (f : LineState → LineState) (w : Work) : (updateLine f w).pending = w.pending := rfl
@[simp] theorem updateLine_notices (f : LineState → LineState) (w : Work) : (updateLine f w).notices = w.notices := rfl
@[simp] theorem updateLine_switched (f : LineState → LineState) (w : Work) : (updateLine f w).switched = w.switched := rfl

/-! ## `notify` -/

@[simp] theorem notify_loader (n : Notice) (w : Work) : (notify n w).loader = w.loader := rfl
@[simp] theorem notify_scan (n : Notice) (w : Work) : (notify n w).scan = w.scan := rfl
@[simp] theorem notify_analog (n : Notice) (w : Work) : (notify n w).analog = w.analog := rfl
@[simp] theorem notify_charge (n : Notice) (w : Work) : (notify n w).charge = w.charge := rfl
@[simp] theorem notify_balance (n : Notice) (w : Work) : (notify n w).balance = w.balance := rfl
@[simp] theorem notify_thermal (n : Notice) (w : Work) : (notify n w).thermal = w.thermal := rfl
@[simp] theorem notify_hazard (n : Notice) (w : Work) : (notify n w).hazard = w.hazard := rfl
@[simp] theorem notify_limit (n : Notice) (w : Work) : (notify n w).limit = w.limit := rfl
@[simp] theorem notify_line (n : Notice) (w : Work) : (notify n w).line = w.line := rfl
@[simp] theorem notify_peers (n : Notice) (w : Work) : (notify n w).peers = w.peers := rfl
@[simp] theorem notify_permit (n : Notice) (w : Work) : (notify n w).permit = w.permit := rfl
@[simp] theorem notify_conn (n : Notice) (w : Work) : (notify n w).conn = w.conn := rfl
@[simp] theorem notify_key (n : Notice) (w : Work) : (notify n w).key = w.key := rfl
@[simp] theorem notify_lamps (n : Notice) (w : Work) : (notify n w).lamps = w.lamps := rfl
@[simp] theorem notify_mem (n : Notice) (w : Work) : (notify n w).mem = w.mem := rfl
@[simp] theorem notify_freeCount (n : Notice) (w : Work) : (notify n w).freeCount = w.freeCount := rfl
@[simp] theorem notify_pending (n : Notice) (w : Work) : (notify n w).pending = w.pending := rfl
@[simp] theorem notify_notices (n : Notice) (w : Work) : (notify n w).notices = w.notices ++ [n] := rfl
@[simp] theorem notify_switched (n : Notice) (w : Work) : (notify n w).switched = w.switched := rfl

/-! ## `Work.start` -/

@[simp] theorem Work.start_loader (s : State) : (Work.start s).loader = s.loader := rfl
@[simp] theorem Work.start_scan (s : State) : (Work.start s).scan = s.scan := rfl
@[simp] theorem Work.start_analog (s : State) : (Work.start s).analog = s.analog := rfl
@[simp] theorem Work.start_charge (s : State) : (Work.start s).charge = s.charge := rfl
@[simp] theorem Work.start_balance (s : State) : (Work.start s).balance = s.balance := rfl
@[simp] theorem Work.start_thermal (s : State) : (Work.start s).thermal = s.thermal := rfl
@[simp] theorem Work.start_hazard (s : State) : (Work.start s).hazard = s.hazard := rfl
@[simp] theorem Work.start_limit (s : State) : (Work.start s).limit = s.limit := rfl
@[simp] theorem Work.start_line (s : State) : (Work.start s).line = s.line := rfl
@[simp] theorem Work.start_peers (s : State) : (Work.start s).peers = s.peers := rfl
@[simp] theorem Work.start_permit (s : State) : (Work.start s).permit = s.permit := rfl
@[simp] theorem Work.start_conn (s : State) : (Work.start s).conn = s.conn := rfl
@[simp] theorem Work.start_key (s : State) : (Work.start s).key = s.key := rfl
@[simp] theorem Work.start_lamps (s : State) : (Work.start s).lamps = s.lamps := rfl
@[simp] theorem Work.start_mem (s : State) : (Work.start s).mem = s.mem := rfl
@[simp] theorem Work.start_freeCount (s : State) : (Work.start s).freeCount = s.freeCount := rfl
@[simp] theorem Work.start_pending (s : State) : (Work.start s).pending = s.pending := rfl
@[simp] theorem Work.start_notices (s : State) : (Work.start s).notices = [] := rfl
@[simp] theorem Work.start_switched (s : State) : (Work.start s).switched = [] := rfl

/-! ## `recordSwitches` -/

@[simp] theorem recordSwitches_loader (p : ConnPhase) (w : Work) : (recordSwitches p w).loader = w.loader := rfl
@[simp] theorem recordSwitches_scan (p : ConnPhase) (w : Work) : (recordSwitches p w).scan = w.scan := rfl
@[simp] theorem recordSwitches_analog (p : ConnPhase) (w : Work) : (recordSwitches p w).analog = w.analog := rfl
@[simp] theorem recordSwitches_charge (p : ConnPhase) (w : Work) : (recordSwitches p w).charge = w.charge := rfl
@[simp] theorem recordSwitches_balance (p : ConnPhase) (w : Work) : (recordSwitches p w).balance = w.balance := rfl
@[simp] theorem recordSwitches_thermal (p : ConnPhase) (w : Work) : (recordSwitches p w).thermal = w.thermal := rfl
@[simp] theorem recordSwitches_hazard (p : ConnPhase) (w : Work) : (recordSwitches p w).hazard = w.hazard := rfl
@[simp] theorem recordSwitches_limit (p : ConnPhase) (w : Work) : (recordSwitches p w).limit = w.limit := rfl
@[simp] theorem recordSwitches_line (p : ConnPhase) (w : Work) : (recordSwitches p w).line = w.line := rfl
@[simp] theorem recordSwitches_peers (p : ConnPhase) (w : Work) : (recordSwitches p w).peers = w.peers := rfl
@[simp] theorem recordSwitches_permit (p : ConnPhase) (w : Work) : (recordSwitches p w).permit = w.permit := rfl
@[simp] theorem recordSwitches_key (p : ConnPhase) (w : Work) : (recordSwitches p w).key = w.key := rfl
@[simp] theorem recordSwitches_lamps (p : ConnPhase) (w : Work) : (recordSwitches p w).lamps = w.lamps := rfl
@[simp] theorem recordSwitches_mem (p : ConnPhase) (w : Work) : (recordSwitches p w).mem = w.mem := rfl
@[simp] theorem recordSwitches_freeCount (p : ConnPhase) (w : Work) : (recordSwitches p w).freeCount = w.freeCount := rfl
@[simp] theorem recordSwitches_pending (p : ConnPhase) (w : Work) : (recordSwitches p w).pending = w.pending := rfl
@[simp] theorem recordSwitches_notices (p : ConnPhase) (w : Work) : (recordSwitches p w).notices = w.notices := rfl
@[simp] theorem recordSwitches_running (p : ConnPhase) (w : Work) : (recordSwitches p w).running = w.running := rfl
@[simp] theorem recordSwitches_configured (p : ConnPhase) (w : Work) : (recordSwitches p w).configured = w.configured := rfl
@[simp] theorem recordSwitches_now (p : ConnPhase) (w : Work) : (recordSwitches p w).now = w.now := rfl
@[simp] theorem recordSwitches_own (p : ConnPhase) (w : Work) : (recordSwitches p w).own = w.own := rfl

@[simp] theorem recordSwitches_phase (p : ConnPhase) (w : Work) : (recordSwitches p w).conn.phase = w.conn.phase := rfl
@[simp] theorem recordSwitches_locks (p : ConnPhase) (w : Work) : (recordSwitches p w).conn.locks = w.conn.locks := rfl
@[simp] theorem recordSwitches_drives (p : ConnPhase) (w : Work) : (recordSwitches p w).conn.drives = w.conn.drives := rfl
@[simp] theorem recordSwitches_linkUp (p : ConnPhase) (w : Work) : (recordSwitches p w).conn.linkUp = w.conn.linkUp := rfl
@[simp] theorem recordSwitches_misses (p : ConnPhase) (w : Work) : (recordSwitches p w).conn.misses = w.conn.misses := rfl
@[simp] theorem recordSwitches_seq (p : ConnPhase) (w : Work) : (recordSwitches p w).conn.seq = w.conn.seq := rfl
@[simp] theorem recordSwitches_lastFrame (p : ConnPhase) (w : Work) : (recordSwitches p w).conn.lastFrame = w.conn.lastFrame := rfl
@[simp] theorem recordSwitches_answered (p : ConnPhase) (w : Work) : (recordSwitches p w).conn.answered = w.conn.answered := rfl
@[simp] theorem recordSwitches_lastAnswer (p : ConnPhase) (w : Work) : (recordSwitches p w).conn.lastAnswer = w.conn.lastAnswer := rfl
@[simp] theorem recordSwitches_gridTimer (p : ConnPhase) (w : Work) : (recordSwitches p w).conn.gridTimer = w.conn.gridTimer := rfl
@[simp] theorem recordSwitches_gridReached (p : ConnPhase) (w : Work) : (recordSwitches p w).conn.gridReached = w.conn.gridReached := rfl
@[simp] theorem recordSwitches_tripDischarge (p : ConnPhase) (w : Work) : (recordSwitches p w).conn.tripDischarge = w.conn.tripDischarge := rfl
@[simp] theorem recordSwitches_tripCharge (p : ConnPhase) (w : Work) : (recordSwitches p w).conn.tripCharge = w.conn.tripCharge := rfl
@[simp] theorem recordSwitches_failures (p : ConnPhase) (w : Work) : (recordSwitches p w).conn.failures = w.conn.failures := rfl
@[simp] theorem recordSwitches_stateTimer (p : ConnPhase) (w : Work) : (recordSwitches p w).conn.stateTimer = w.conn.stateTimer := rfl
@[simp] theorem recordSwitches_visibilityTimer (p : ConnPhase) (w : Work) : (recordSwitches p w).conn.visibilityTimer = w.conn.visibilityTimer := rfl
@[simp] theorem recordSwitches_threshold (p : ConnPhase) (w : Work) : (recordSwitches p w).conn.threshold = w.conn.threshold := rfl
@[simp] theorem recordSwitches_exitPending (p : ConnPhase) (w : Work) : (recordSwitches p w).conn.exitPending = w.conn.exitPending := rfl
@[simp] theorem recordSwitches_lastExit (p : ConnPhase) (w : Work) : (recordSwitches p w).conn.lastExit = w.conn.lastExit := rfl

/-! ## `takeFree` -/

@[simp] theorem takeFree_loader (n : Nat) (w : Work) : (takeFree n w).loader = w.loader := rfl
@[simp] theorem takeFree_scan (n : Nat) (w : Work) : (takeFree n w).scan = w.scan := rfl
@[simp] theorem takeFree_analog (n : Nat) (w : Work) : (takeFree n w).analog = w.analog := rfl
@[simp] theorem takeFree_charge (n : Nat) (w : Work) : (takeFree n w).charge = w.charge := rfl
@[simp] theorem takeFree_balance (n : Nat) (w : Work) : (takeFree n w).balance = w.balance := rfl
@[simp] theorem takeFree_thermal (n : Nat) (w : Work) : (takeFree n w).thermal = w.thermal := rfl
@[simp] theorem takeFree_hazard (n : Nat) (w : Work) : (takeFree n w).hazard = w.hazard := rfl
@[simp] theorem takeFree_limit (n : Nat) (w : Work) : (takeFree n w).limit = w.limit := rfl
@[simp] theorem takeFree_line (n : Nat) (w : Work) : (takeFree n w).line = w.line := rfl
@[simp] theorem takeFree_peers (n : Nat) (w : Work) : (takeFree n w).peers = w.peers := rfl
@[simp] theorem takeFree_permit (n : Nat) (w : Work) : (takeFree n w).permit = w.permit := rfl
@[simp] theorem takeFree_conn (n : Nat) (w : Work) : (takeFree n w).conn = w.conn := rfl
@[simp] theorem takeFree_key (n : Nat) (w : Work) : (takeFree n w).key = w.key := rfl
@[simp] theorem takeFree_lamps (n : Nat) (w : Work) : (takeFree n w).lamps = w.lamps := rfl
@[simp] theorem takeFree_mem (n : Nat) (w : Work) : (takeFree n w).mem = w.mem := rfl
@[simp] theorem takeFree_pending (n : Nat) (w : Work) : (takeFree n w).pending = w.pending := rfl
@[simp] theorem takeFree_notices (n : Nat) (w : Work) : (takeFree n w).notices = w.notices := rfl
@[simp] theorem takeFree_switched (n : Nat) (w : Work) : (takeFree n w).switched = w.switched := rfl
@[simp] theorem takeFree_freeCount (n : Nat) (w : Work) : (takeFree n w).freeCount = w.freeCount + n := rfl
@[simp] theorem takeFree_running (n : Nat) (w : Work) : (takeFree n w).running = w.running := rfl
@[simp] theorem takeFree_configured (n : Nat) (w : Work) : (takeFree n w).configured = w.configured := rfl
@[simp] theorem takeFree_now (n : Nat) (w : Work) : (takeFree n w).now = w.now := rfl
@[simp] theorem takeFree_own (n : Nat) (w : Work) : (takeFree n w).own = w.own := rfl

/-! ## What every change but the loader's keeps -/

@[simp] theorem updateConn_running (f : ConnState → ConnState) (w : Work) : (updateConn f w).running = w.running := rfl
@[simp] theorem updateConn_configured (f : ConnState → ConnState) (w : Work) : (updateConn f w).configured = w.configured := rfl
@[simp] theorem updateConn_now (f : ConnState → ConnState) (w : Work) : (updateConn f w).now = w.now := rfl
@[simp] theorem updateConn_own (f : ConnState → ConnState) (w : Work) : (updateConn f w).own = w.own := rfl
@[simp] theorem updateThermal_running (f : ThermalState → ThermalState) (w : Work) : (updateThermal f w).running = w.running := rfl
@[simp] theorem updateThermal_configured (f : ThermalState → ThermalState) (w : Work) : (updateThermal f w).configured = w.configured := rfl
@[simp] theorem updateThermal_now (f : ThermalState → ThermalState) (w : Work) : (updateThermal f w).now = w.now := rfl
@[simp] theorem updateThermal_own (f : ThermalState → ThermalState) (w : Work) : (updateThermal f w).own = w.own := rfl
@[simp] theorem updateHazard_running (f : HazardState → HazardState) (w : Work) : (updateHazard f w).running = w.running := rfl
@[simp] theorem updateHazard_configured (f : HazardState → HazardState) (w : Work) : (updateHazard f w).configured = w.configured := rfl
@[simp] theorem updateHazard_now (f : HazardState → HazardState) (w : Work) : (updateHazard f w).now = w.now := rfl
@[simp] theorem updateHazard_own (f : HazardState → HazardState) (w : Work) : (updateHazard f w).own = w.own := rfl
@[simp] theorem updateScan_running (f : ScanState → ScanState) (w : Work) : (updateScan f w).running = w.running := rfl
@[simp] theorem updateScan_configured (f : ScanState → ScanState) (w : Work) : (updateScan f w).configured = w.configured := rfl
@[simp] theorem updateScan_now (f : ScanState → ScanState) (w : Work) : (updateScan f w).now = w.now := rfl
@[simp] theorem updateScan_own (f : ScanState → ScanState) (w : Work) : (updateScan f w).own = w.own := rfl
@[simp] theorem updateCharge_running (f : ChargeState → ChargeState) (w : Work) : (updateCharge f w).running = w.running := rfl
@[simp] theorem updateCharge_configured (f : ChargeState → ChargeState) (w : Work) : (updateCharge f w).configured = w.configured := rfl
@[simp] theorem updateCharge_now (f : ChargeState → ChargeState) (w : Work) : (updateCharge f w).now = w.now := rfl
@[simp] theorem updateCharge_own (f : ChargeState → ChargeState) (w : Work) : (updateCharge f w).own = w.own := rfl
@[simp] theorem updateBalance_running (f : BalanceState → BalanceState) (w : Work) : (updateBalance f w).running = w.running := rfl
@[simp] theorem updateBalance_configured (f : BalanceState → BalanceState) (w : Work) : (updateBalance f w).configured = w.configured := rfl
@[simp] theorem updateBalance_now (f : BalanceState → BalanceState) (w : Work) : (updateBalance f w).now = w.now := rfl
@[simp] theorem updateBalance_own (f : BalanceState → BalanceState) (w : Work) : (updateBalance f w).own = w.own := rfl
@[simp] theorem updateAnalog_running (f : AnalogState → AnalogState) (w : Work) : (updateAnalog f w).running = w.running := rfl
@[simp] theorem updateAnalog_configured (f : AnalogState → AnalogState) (w : Work) : (updateAnalog f w).configured = w.configured := rfl
@[simp] theorem updateAnalog_now (f : AnalogState → AnalogState) (w : Work) : (updateAnalog f w).now = w.now := rfl
@[simp] theorem updateAnalog_own (f : AnalogState → AnalogState) (w : Work) : (updateAnalog f w).own = w.own := rfl
@[simp] theorem updatePeers_running (f : PeerState → PeerState) (w : Work) : (updatePeers f w).running = w.running := rfl
@[simp] theorem updatePeers_configured (f : PeerState → PeerState) (w : Work) : (updatePeers f w).configured = w.configured := rfl
@[simp] theorem updatePeers_now (f : PeerState → PeerState) (w : Work) : (updatePeers f w).now = w.now := rfl
@[simp] theorem updatePeers_own (f : PeerState → PeerState) (w : Work) : (updatePeers f w).own = w.own := rfl
@[simp] theorem changeLine_running (f : LineState → LineState) (w : Work) : (changeLine f w).running = w.running := rfl
@[simp] theorem changeLine_configured (f : LineState → LineState) (w : Work) : (changeLine f w).configured = w.configured := rfl
@[simp] theorem changeLine_now (f : LineState → LineState) (w : Work) : (changeLine f w).now = w.now := rfl
@[simp] theorem changeLine_own (f : LineState → LineState) (w : Work) : (changeLine f w).own = w.own := rfl
@[simp] theorem updateLine_running (f : LineState → LineState) (w : Work) : (updateLine f w).running = w.running := rfl
@[simp] theorem updateLine_configured (f : LineState → LineState) (w : Work) : (updateLine f w).configured = w.configured := rfl
@[simp] theorem updateLine_now (f : LineState → LineState) (w : Work) : (updateLine f w).now = w.now := rfl
@[simp] theorem updateLine_own (f : LineState → LineState) (w : Work) : (updateLine f w).own = w.own := rfl
@[simp] theorem updatePermit_running (f : PermitState → PermitState) (w : Work) : (updatePermit f w).running = w.running := rfl
@[simp] theorem updatePermit_configured (f : PermitState → PermitState) (w : Work) : (updatePermit f w).configured = w.configured := rfl
@[simp] theorem updatePermit_now (f : PermitState → PermitState) (w : Work) : (updatePermit f w).now = w.now := rfl
@[simp] theorem updatePermit_own (f : PermitState → PermitState) (w : Work) : (updatePermit f w).own = w.own := rfl
@[simp] theorem updateLimit_running (f : LimitState → LimitState) (w : Work) : (updateLimit f w).running = w.running := rfl
@[simp] theorem updateLimit_configured (f : LimitState → LimitState) (w : Work) : (updateLimit f w).configured = w.configured := rfl
@[simp] theorem updateLimit_now (f : LimitState → LimitState) (w : Work) : (updateLimit f w).now = w.now := rfl
@[simp] theorem updateLimit_own (f : LimitState → LimitState) (w : Work) : (updateLimit f w).own = w.own := rfl
@[simp] theorem updateKey_running (f : ContactInput → ContactInput) (w : Work) : (updateKey f w).running = w.running := rfl
@[simp] theorem updateKey_configured (f : ContactInput → ContactInput) (w : Work) : (updateKey f w).configured = w.configured := rfl
@[simp] theorem updateKey_now (f : ContactInput → ContactInput) (w : Work) : (updateKey f w).now = w.now := rfl
@[simp] theorem updateKey_own (f : ContactInput → ContactInput) (w : Work) : (updateKey f w).own = w.own := rfl
@[simp] theorem updateLamps_running (f : Lamps → Lamps) (w : Work) : (updateLamps f w).running = w.running := rfl
@[simp] theorem updateLamps_configured (f : Lamps → Lamps) (w : Work) : (updateLamps f w).configured = w.configured := rfl
@[simp] theorem updateLamps_now (f : Lamps → Lamps) (w : Work) : (updateLamps f w).now = w.now := rfl
@[simp] theorem updateLamps_own (f : Lamps → Lamps) (w : Work) : (updateLamps f w).own = w.own := rfl
@[simp] theorem updateMem_running (f : Memory → Memory) (w : Work) : (updateMem f w).running = w.running := rfl
@[simp] theorem updateMem_configured (f : Memory → Memory) (w : Work) : (updateMem f w).configured = w.configured := rfl
@[simp] theorem updateMem_now (f : Memory → Memory) (w : Work) : (updateMem f w).now = w.now := rfl
@[simp] theorem updateMem_own (f : Memory → Memory) (w : Work) : (updateMem f w).own = w.own := rfl
@[simp] theorem notify_running (n : Notice) (w : Work) : (notify n w).running = w.running := rfl
@[simp] theorem notify_configured (n : Notice) (w : Work) : (notify n w).configured = w.configured := rfl
@[simp] theorem notify_now (n : Notice) (w : Work) : (notify n w).now = w.now := rfl
@[simp] theorem notify_own (n : Notice) (w : Work) : (notify n w).own = w.own := rfl

end Sys2Proof.Machine
end

