-- ==== Sys2Proof/Laws/Frame.lean ====
section
/-! SUPPORT. Which parts of the state each shared operation can change: `Same K w w'` says that `w'` has every block of `w` outside `K`.
One lemma per operation; a command's frame is their composition. -/

set_option Elab.async false

namespace Sys2Proof.Machine

/-- The parts of the working state, as finely as the frames need them. -/
inductive Block where
  | config | uptime | served | request | writing | scan | analog | charge | balance | thermal | hazard | level | course | latches | limit
  | line | duplicate | urgent | peers | permit | conn | key | lamps | mem | free | pending | notices
  deriving DecidableEq, Repr

/-- What the loader fixed at the start (R190). -/
def LoaderState.fixed (l : LoaderState) :
    (LoadPhase × Nat × Bool × Option StartKind) × Bool × SectionReports × Nat × Settings :=
  ((l.phase, l.straps, l.listenOnly, l.startKind), l.memoryFault, l.sections, l.digest, l.cfg)

/-- The uptime with its running second (R192). -/
def LoaderState.clock (l : LoaderState) : Nat × Timer := (l.uptime, l.second)

/-- The latched records and flags of the hazard unit (R80, R87). -/
def HazardState.latches (h : HazardState) : Option FirstCause × Option FirstCause × Bool :=
  (h.firstPre, h.firstAlarm, h.releaseFault)

/-- The course of the level (R70 to R76, R87, R88): the level with its set and timers, the causes and the history. -/
def HazardState.course (h : HazardState) :
    (HazardLevel × List Indication × Bool × Timer × Timer × Timer) × Cause × List HistoryEntry × Option FirstCause × Option FirstCause :=
  ((h.level, h.set, h.evaluated, h.escalation, h.fallBack, h.quiet), h.firstCause, h.history, h.firstPre, h.firstAlarm)

/-- The urgent slot with its next frame, and the class being sent (R125, R129). -/
def LineState.slot (l : LineState) : Option HazardFrame × Option HazardFrame × Option FrameClass :=
  (l.urgent, l.urgentNext, l.sendingClass)

/-- The two states have the same value of a part. -/
def Block.agrees (w w' : Work) : Block → Prop
  | .config => w'.loader.fixed = w.loader.fixed
  | .uptime => w'.loader.clock = w.loader.clock
  | .served => w'.loader.answered = w.loader.answered ∧ w'.loader.dropped = w.loader.dropped
  | .request => w'.loader.writeStore = w.loader.writeStore
  | .writing => w'.loader.writing = w.loader.writing ∧ w'.loader.writeTimer = w.loader.writeTimer
  | .scan => w'.scan = w.scan
  | .analog => w'.analog = w.analog
  | .charge => w'.charge = w.charge
  | .balance => w'.balance = w.balance
  | .thermal => w'.thermal = w.thermal
  | .hazard => w'.hazard = w.hazard
  | .level => w'.hazard.level = w.hazard.level
  | .course => w'.hazard.course = w.hazard.course
  | .latches => w'.hazard.latches = w.hazard.latches
  | .limit => w'.limit = w.limit
  | .line => w'.line = w.line
  | .duplicate => w'.line.duplicate = w.line.duplicate
  | .urgent => w'.line.slot = w.line.slot
  | .peers => w'.peers = w.peers
  | .permit => w'.permit = w.permit
  | .conn => w'.conn = w.conn ∧ w'.switched = w.switched
  | .key => w'.key = w.key
  | .lamps => w'.lamps = w.lamps
  | .mem => w'.mem = w.mem
  | .free => w'.freeCount = w.freeCount
  | .pending => w'.pending = w.pending
  | .notices => w'.notices = w.notices

/-- `w'` differs from `w` at most in the parts of `K`. -/
def Same (K : List Block) (w w' : Work) : Prop := ∀ b, b ∉ K → b.agrees w w'

theorem Block.agrees_refl (w : Work) (b : Block) : b.agrees w w := by cases b <;> simp [Block.agrees]

theorem Block.agrees_trans {w w' w'' : Work} {b : Block} (h : b.agrees w w') (h' : b.agrees w' w'') : b.agrees w w'' := by
  cases b <;> simp_all [Block.agrees]

theorem Same.refl (K : List Block) (w : Work) : Same K w w := fun b _ => b.agrees_refl w

theorem Same.mono {K K' : List Block} {w w' : Work} (h : Same K w w') (sub : ∀ b ∈ K, b ∈ K' := by decide) : Same K' w w' :=
  fun b hb => h b fun hk => hb (sub b hk)

/-- One effect after another. -/
theorem Same.comp {K K₁ K₂ : List Block} {w w' w'' : Work} (h₁ : Same K₁ w w') (h₂ : Same K₂ w' w'')
    (s₁ : ∀ b ∈ K₁, b ∈ K := by decide) (s₂ : ∀ b ∈ K₂, b ∈ K := by decide) : Same K w w'' :=
  fun b hb => Block.agrees_trans ((h₁.mono s₁) b hb) ((h₂.mono s₂) b hb)

/-- One of two effects. -/
theorem Same.ite {K K₁ K₂ : List Block} {c : Prop} [Decidable c] {w x y : Work} (h₁ : Same K₁ w x) (h₂ : Same K₂ w y)
    (s₁ : ∀ b ∈ K₁, b ∈ K := by decide) (s₂ : ∀ b ∈ K₂, b ∈ K := by decide) : Same K w (if c then x else y) := by
  split
  · exact h₁.mono s₁
  · exact h₂.mono s₂

theorem Same.onlyIf {K : List Block} {c : Bool} {f : Work → Work} {w : Work} (h : Same K w (f w)) :
    Same K w (Work.onlyIf c f w) := by
  unfold Work.onlyIf
  split
  · exact h
  · exact .refl _ _

/-! ## Reading a frame -/

theorem Same.config {K : List Block} {w w' : Work} (h : Same K w w') (hk : Block.config ∉ K := by decide) :
    w'.loader.fixed = w.loader.fixed := h .config hk
theorem Same.mem {K : List Block} {w w' : Work} (h : Same K w w') (hk : Block.mem ∉ K := by decide) : w'.mem = w.mem := h .mem hk

/-! ## The updates of one block -/

theorem updateConn_same (f : ConnState → ConnState) (w : Work) : Same [.conn] w (updateConn f w) := by
  intro b hb; cases b <;> simp_all [Block.agrees]
theorem recordSwitches_same (p : ConnPhase) (w : Work) : Same [.conn] w (recordSwitches p w) := by
  intro b hb; cases b <;> simp_all [Block.agrees]
theorem takeFree_same (n : Nat) (w : Work) : Same [.free] w (takeFree n w) := by
  intro b hb; cases b <;> simp_all [Block.agrees]
theorem updateThermal_same (f : ThermalState → ThermalState) (w : Work) : Same [.thermal] w (updateThermal f w) := by
  intro b hb; cases b <;> simp_all [Block.agrees]
theorem updateScan_same (f : ScanState → ScanState) (w : Work) : Same [.scan] w (updateScan f w) := by
  intro b hb; cases b <;> simp_all [Block.agrees]
theorem updateAnalog_same (f : AnalogState → AnalogState) (w : Work) : Same [.analog] w (updateAnalog f w) := by
  intro b hb; cases b <;> simp_all [Block.agrees]
theorem updateCharge_same (f : ChargeState → ChargeState) (w : Work) : Same [.charge] w (updateCharge f w) := by
  intro b hb; cases b <;> simp_all [Block.agrees]
theorem updateBalance_same (f : BalanceState → BalanceState) (w : Work) : Same [.balance] w (updateBalance f w) := by
  intro b hb; cases b <;> simp_all [Block.agrees]
theorem updatePeers_same (f : PeerState → PeerState) (w : Work) : Same [.peers] w (updatePeers f w) := by
  intro b hb; cases b <;> simp_all [Block.agrees]

/-- The hazard unit's own state changes, but neither its level's course nor its latched records. -/
theorem updateHazard_same {f : HazardState → HazardState} {w : Work} (course : (f w.hazard).course = w.hazard.course := by rfl)
    (latches : (f w.hazard).latches = w.hazard.latches := by rfl) : Same [.hazard] w (updateHazard f w) := by
  have level : (f w.hazard).level = w.hazard.level := congrArg (·.1.1) course
  intro b hb; cases b <;> simp_all [Block.agrees]

/-- The hazard unit's own state changes, its set and timers with it, but neither its level nor its latched records. -/
theorem updateHazard_course {f : HazardState → HazardState} {w : Work} (level : (f w.hazard).level = w.hazard.level := by rfl)
    (latches : (f w.hazard).latches = w.hazard.latches := by rfl) : Same [.hazard, .course] w (updateHazard f w) := by
  intro b hb; cases b <;> simp_all [Block.agrees]

theorem updatePermit_same (f : PermitState → PermitState) (w : Work) : Same [.permit] w (updatePermit f w) := by
  intro b hb; cases b <;> simp_all [Block.agrees]
theorem updateLimit_same (f : LimitState → LimitState) (w : Work) : Same [.limit] w (updateLimit f w) := by
  intro b hb; cases b <;> simp_all [Block.agrees]
theorem updateKey_same (f : ContactInput → ContactInput) (w : Work) : Same [.key] w (updateKey f w) := by
  intro b hb; cases b <;> simp_all [Block.agrees]
theorem updateLamps_same (f : Lamps → Lamps) (w : Work) : Same [.lamps] w (updateLamps f w) := by
  intro b hb; cases b <;> simp_all [Block.agrees]
theorem updateMem_same (f : Memory → Memory) (w : Work) : Same [.mem] w (updateMem f w) := by
  intro b hb; cases b <;> simp_all [Block.agrees]
theorem setNotices_same (n : List Notice) (w : Work) : Same [.notices] w { w with notices := n } := by
  intro b hb; cases b <;> simp_all [Block.agrees]
theorem notify_same (n : Notice) (w : Work) : Same [.notices] w (notify n w) := by
  intro b hb; cases b <;> simp_all [Block.agrees]

/-- The line interface's own state changes, but neither DUPLICATE nor the urgent slot. -/
theorem changeLine_same {f : LineState → LineState} {w : Work} (duplicate : (f w.line).duplicate = w.line.duplicate := by rfl)
    (slot : (f w.line).slot = w.line.slot := by rfl) : Same [.line] w (changeLine f w) := by
  intro b hb; cases b <;> simp_all [Block.agrees]

/-- The urgent slot, or the class being sent, changes with it. -/
theorem changeLine_urgent {f : LineState → LineState} {w : Work} (duplicate : (f w.line).duplicate = w.line.duplicate := by rfl) :
    Same [.line, .urgent] w (changeLine f w) := by
  intro b hb; cases b <;> simp_all [Block.agrees]

/-- The write store changes, but not what the start fixed, nor the write in progress, nor the counts. -/
theorem updateLoader_same {f : LoaderState → LoaderState} {w : Work} (fixed : (f w.loader).fixed = w.loader.fixed := by rfl)
    (uptime : (f w.loader).clock = w.loader.clock := by rfl)
    (served : (f w.loader).answered = w.loader.answered ∧ (f w.loader).dropped = w.loader.dropped := by exact ⟨rfl, rfl⟩)
    (writing : (f w.loader).writing = w.loader.writing ∧ (f w.loader).writeTimer = w.loader.writeTimer := by exact ⟨rfl, rfl⟩) :
    Same [.request] w (updateLoader f w) := by
  intro b hb; cases b <;> simp_all [Block.agrees]

/-- The memory port changes, but not what the start fixed, nor the counts. -/
theorem updateLoader_port {f : LoaderState → LoaderState} {w : Work} (fixed : (f w.loader).fixed = w.loader.fixed := by rfl)
    (uptime : (f w.loader).clock = w.loader.clock := by rfl)
    (served : (f w.loader).answered = w.loader.answered ∧ (f w.loader).dropped = w.loader.dropped := by exact ⟨rfl, rfl⟩) :
    Same [.request, .writing] w (updateLoader f w) := by
  intro b hb; cases b <;> simp_all [Block.agrees]

end Sys2Proof.Machine
end

