-- ==== Sys2Proof/Laws/FramePermit.lean ====
section
/-! SUPPORT. The frames of the line interface's, the permit unit's and limit and share's operations: what each can change. -/

set_option Elab.async false

namespace Sys2Proof.Machine

/-! ## The line interface -/

/-- R125: what `retake` can do outside the listen-only start: unless a frame is being sent, the frame in hand is that of the highest class
whose store is not empty, and the transmitter is WAITING exactly where there is one. -/
theorem LineState.retake_hand (l : LineState) (h : (l.retake false).tx ≠ .sending) :
    (l.retake false).inHand =
        (if l.urgent ≠ none then some .urgent
        else if l.permits ≠ [] then some .permit
        else if l.replies ≠ [] then some .reply
        else if l.routine ≠ [] then some .routine
        else none)
      ∧ ((l.retake false).tx = .waiting ↔ (l.retake false).inHand ≠ none) := by
  have hs : l.tx ≠ .sending := fun e => h (by simp [LineState.retake, e])
  have hb : l.best = (if l.urgent ≠ none then some .urgent
        else if l.permits ≠ [] then some .permit
        else if l.replies ≠ [] then some .reply
        else if l.routine ≠ [] then some .routine
        else none) := by
    simp [LineState.best, LineState.holds, Option.isSome_iff_ne_none]
  rw [← hb]
  simp only [LineState.retake, hs, if_false, Bool.false_eq_true]
  cases l.best <;> simp

theorem LineState.retake_duplicate (b : Bool) (l : LineState) : (l.retake b).duplicate = l.duplicate := by
  unfold LineState.retake; split
  · rfl
  · split
    · rfl
    · split <;> rfl

/-- Taking the frame in hand again leaves the urgent slot and a frame being sent as they are. -/
theorem LineState.retake_slot (b : Bool) (l : LineState) : (l.retake b).slot = l.slot := by
  unfold LineState.retake; split
  · rfl
  · rename_i h
    split
    · simp [LineState.slot, LineState.sendingClass, h]
    · split <;> simp [LineState.slot, LineState.sendingClass, h]

theorem updateLine_same {f : LineState → LineState} {w : Work} (duplicate : (f w.line).duplicate = w.line.duplicate := by rfl)
    (slot : (f w.line).slot = w.line.slot := by rfl) : Same [.line] w (updateLine f w) :=
  changeLine_same ((LineState.retake_duplicate _ _).trans duplicate) ((LineState.retake_slot _ _).trans slot)

theorem updateLine_urgent {f : LineState → LineState} {w : Work} (duplicate : (f w.line).duplicate = w.line.duplicate := by rfl) :
    Same [.line, .urgent] w (updateLine f w) :=
  changeLine_urgent ((LineState.retake_duplicate _ _).trans duplicate)

theorem placeHazard_same (f : HazardFrame) (w : Work) : Same [.line, .urgent] w (placeHazard f w) :=
  updateLine_urgent (by split <;> rfl)

/-- R129: what the urgent slot holds after a HAZARD frame is placed: it is the slot's frame, or the next one while the slot's is being
sent. -/
theorem placeHazard_slot (f : HazardFrame) (w : Work) : (placeHazard f w).line.slot =
    if w.line.sendingClass = some .urgent then (w.line.urgent, some f, w.line.sendingClass)
    else (some f, w.line.urgentNext, w.line.sendingClass) := by
  unfold placeHazard updateLine
  simp only [changeLine_line, LineState.retake_slot]
  split <;> rfl

theorem appendPermit_same (f : PermitFrame) (w : Work) : Same [.line] w (appendPermit f w) := updateLine_same
theorem appendReply_same (f : ReplyFrame) (w : Work) : Same [.line] w (appendReply f w) := updateLine_same

theorem placeRoutine_same (r : RoutineRequest) (w : Work) : Same [.line] w (placeRoutine r w) := by
  unfold placeRoutine; split
  · exact .refl _ _
  · exact updateLine_same (by split; · rfl
                              · split <;> rfl) (by split; · rfl
                                                   · split <;> rfl)

theorem startSending_same (w : Work) : Same [.line, .urgent] w (startSending w) := by
  unfold startSending; split
  · exact changeLine_urgent
  · exact .refl _ _

theorem countDeferral_same (w : Work) : Same [.line] w (countDeferral w) := changeLine_same

theorem LineState.putBack_duplicate (l : LineState) : l.putBack.duplicate = l.duplicate := by
  unfold LineState.putBack; split <;> first | rfl | (split <;> rfl)

theorem LineState.removeSent_duplicate (l : LineState) : l.removeSent.duplicate = l.duplicate := by
  unfold LineState.removeSent; split <;> rfl

theorem collide_same (w : Work) : Same [.line, .urgent] w (collide w) := by
  unfold collide; split
  · exact updateLine_urgent (LineState.putBack_duplicate _)
  · exact .refl _ _

theorem finishSending_same (w : Work) : Same [.line, .urgent] w (finishSending w) :=
  updateLine_urgent (LineState.removeSent_duplicate _)
theorem emptyStores_same (w : Work) : Same [.line] w (emptyStores w) := updateLine_same

/-! ## The permit unit -/

theorem storeFrame_same (f : PermitFrame) (w : Work) : Same [.line, .permit] w (storeFrame f w) :=
  (appendPermit_same f w).comp (updatePermit_same _ _)

theorem offerPermit_same (f : PermitFrame) (w : Work) : Same [.line, .permit] w (offerPermit f w) := by
  unfold offerPermit; split
  · exact storeFrame_same f w
  · exact .refl _ _

/-- What the permit unit's operations change. -/
abbrev permitBlocks : List Block := [.line, .permit, .notices]

theorem placeOwed_same (w : Work) : Same [.line, .permit] w (placeOwed w) := by
  unfold placeOwed; split
  · split
    · exact (storeFrame_same _ w).comp (updatePermit_same _ _)
    · exact .refl _ _
  · exact .refl _ _

theorem placeGrants_same (l : List (Nat × Nat)) (w : Work) : Same [.line, .permit] w (placeGrants l w) := by
  induction l generalizing w with
  | nil => exact (updatePermit_same _ _).mono
  | cons e rest ih =>
    obtain ⟨n, tag⟩ := e
    unfold placeGrants; split
    · exact (storeFrame_same _ w).comp (ih _)
    · exact (updatePermit_same _ _).mono

theorem serveOwed_same (w : Work) : Same [.line, .permit] w (serveOwed w) := by
  unfold serveOwed; dsimp only; split
  · exact (placeOwed_same w).comp (placeGrants_same _ _)
  · exact placeOwed_same w

theorem takeHold_same (w : Work) : Same [.permit, .notices] w (takeHold w) := by
  unfold takeHold; split
  · exact .refl _ _
  · exact (updatePermit_same _ w).comp (notify_same _ _)

theorem openAsk_same (w : Work) : Same permitBlocks w (openAsk w) := by
  unfold openAsk; split
  · exact .refl _ _
  · dsimp only
    exact ((updatePermit_same _ w).comp (offerPermit_same _ _) (K := [.line, .permit])).comp
      (Same.ite (K := permitBlocks) (takeHold_same _) (.refl [] _))

theorem tryOpenAsk_same (w : Work) : Same permitBlocks w (tryOpenAsk w) := by
  unfold tryOpenAsk; split
  · exact openAsk_same w
  · exact .refl _ _

theorem abandonAsk_same (w : Work) : Same [.line, .permit] w (abandonAsk w) :=
  (updatePermit_same _ w).comp (serveOwed_same _)

theorem releaseHold_same (o : HoldOutcome) (w : Work) : Same permitBlocks w (releaseHold o w) := by
  unfold releaseHold; split
  · exact .refl _ _
  · exact ((updatePermit_same _ w).comp (serveOwed_same _) (K := [.line, .permit])).comp (tryOpenAsk_same _)

theorem placeNeed_same (n : Need) (w : Work) : Same permitBlocks w (placeNeed n w) := by
  unfold placeNeed; split
  · exact (notify_same _ w).mono
  · split
    · exact .refl _ _
    · exact (updatePermit_same _ w).comp (tryOpenAsk_same _)

theorem cancelNeed_same (p : Purpose) (w : Work) : Same [.line, .permit] w (cancelNeed p w) := by
  unfold cancelNeed; split
  · dsimp only
    split
    · exact (updatePermit_same _ w).comp (abandonAsk_same _)
    · exact (updatePermit_same _ w).mono
  · exact .refl _ _

theorem completeNeed_same (t : Bool) (o : HoldOutcome) (w : Work) : Same permitBlocks w (completeNeed t o w) := by
  unfold completeNeed; split
  · split
    · exact releaseHold_same o w
    · exact .refl _ _
  · exact .refl _ _

theorem answerAsk_same (source tag waits : Nat) (p : Purpose) (increase : Nat) (w : Work) :
    Same permitBlocks w (answerAsk source tag waits p increase w) := by
  unfold answerAsk; dsimp only
  split
  · exact ((updatePermit_same _ w).comp (storeFrame_same _ _) (K := [.line, .permit])).comp
      ((updatePermit_same _ _).comp ((serveOwed_same _).comp (tryOpenAsk_same _) (K := permitBlocks)) (K := permitBlocks))
  · exact (updatePermit_same _ w).comp (updatePermit_same _ _)

theorem holdIfAnswered_same (w : Work) : Same [.permit, .notices] w (holdIfAnswered w) := by
  unfold holdIfAnswered; split
  · exact takeHold_same w
  · exact .refl _ _

theorem takeGrant_same (source tag : Nat) (w : Work) : Same [.permit, .notices] w (takeGrant source tag w) := by
  unfold takeGrant; split
  · exact (updatePermit_same _ w).comp (holdIfAnswered_same _)
  · exact .refl _ _

theorem takeDefer_same (source tag : Nat) (w : Work) : Same [.permit, .notices] w (takeDefer source tag w) := by
  unfold takeDefer; split
  · exact (updatePermit_same _ w).comp (holdIfAnswered_same _)
  · exact .refl _ _

theorem takeRelease_same (source tag : Nat) (w : Work) : Same permitBlocks w (takeRelease source tag w) :=
  (updatePermit_same _ w).comp (tryOpenAsk_same _)

theorem oneSecondCheck_same (w : Work) : Same permitBlocks w (oneSecondCheck w) := by
  unfold oneSecondCheck; split
  · split
    · exact (abandonAsk_same w).mono
    · exact (updatePermit_same _ w).comp (holdIfAnswered_same _)
  · exact .refl _ _

theorem thirtySecondCheck_same (w : Work) : Same permitBlocks w (thirtySecondCheck w) := by
  unfold thirtySecondCheck; split
  · split
    · exact (abandonAsk_same w).mono
    · exact (takeHold_same w).mono
  · exact .refl _ _

theorem holdLimit_same (w : Work) : Same permitBlocks w (holdLimit w) := by
  unfold holdLimit; split
  · split
    · exact (notify_same _ w).comp (releaseHold_same _ _)
    · exact .refl _ _
  · exact .refl _ _

theorem backoffEnds_same (w : Work) : Same permitBlocks w (backoffEnds w) := by
  unfold backoffEnds; split
  · exact ((updatePermit_same _ w).comp (serveOwed_same _) (K := [.line, .permit])).comp (tryOpenAsk_same _)
  · exact .refl _ _

theorem permitFrameSent_same (f : PermitFrame) (w : Work) : Same permitBlocks w (permitFrameSent f w) :=
  ((updatePermit_same _ w).comp (serveOwed_same _) (K := [.line, .permit])).comp (tryOpenAsk_same _)

theorem notifyAll_same (needs : List Need) (w : Work) :
    Same [.notices] w (needs.foldl (fun w n => notify (.cleared n.purpose) w) w) := by
  induction needs generalizing w with
  | nil => exact .refl _ _
  | cons n rest ih => exact (notify_same _ w).comp (ih _)

theorem permitAlarm_same (w : Work) : Same permitBlocks w (permitAlarm w) := by
  unfold permitAlarm; dsimp only
  refine Same.comp (K₁ := permitBlocks) ?_ (notifyAll_same _ _)
  split
  · exact (updatePermit_same _ w).comp (abandonAsk_same _)
  · exact (updatePermit_same _ w).comp (releaseHold_same _ _)
  · exact (updatePermit_same _ w).mono
  · exact (updatePermit_same _ w).mono

theorem permitHazardReport_same (old : HazardLevel) (w : Work) : Same permitBlocks w (permitHazardReport old w) := by
  unfold permitHazardReport; split
  · split
    · exact .refl _ _
    · exact permitAlarm_same w
  · exact tryOpenAsk_same w

theorem permitDuplicate_same (w : Work) : Same [.line, .permit] w (permitDuplicate w) := by
  unfold permitDuplicate; dsimp only
  split
  · exact (abandonAsk_same w).comp (updatePermit_same _ _)
  · exact (updatePermit_same _ w).mono

/-! ## Limit and share -/

theorem computeShare_same (w : Work) : Same [.limit] w (computeShare w) := updateLimit_same _ _

theorem capabilityUpdate_same (w : Work) : Same [.limit] w (capabilityUpdate w) :=
  (updateLimit_same _ w).comp (computeShare_same _)

theorem reportThermalDerate_same (w : Work) : Same [.limit] w (reportThermalDerate w) := by
  unfold reportThermalDerate; split
  · exact .refl _ _
  · exact (updateLimit_same _ w).comp (capabilityUpdate_same _)

theorem reportHazardDerate_same (w : Work) : Same [.limit] w (reportHazardDerate w) := by
  unfold reportHazardDerate; dsimp only; split
  · exact .refl _ _
  · exact (updateLimit_same _ w).comp (capabilityUpdate_same _)

theorem reportVisibilityFactor_same (w : Work) : Same [.limit] w (reportVisibilityFactor w) := by
  unfold reportVisibilityFactor; dsimp only; split
  · exact .refl _ _
  · exact (updateLimit_same _ w).comp (capabilityUpdate_same _)

theorem limitSummary_same (w : Work) : Same [.limit] w (limitSummary w) :=
  (updateLimit_same _ w).comp (capabilityUpdate_same _)

theorem leaveConnected_same (w : Work) : Same [.limit] w (leaveConnected w) := updateLimit_same _ _

theorem setpointStep_same (w : Work) : Same [.limit] w (setpointStep w) :=
  ((updateLimit_same _ w).comp (computeShare_same _) (K := [.limit])).comp (updateLimit_same _ _)

end Sys2Proof.Machine
end

