-- ==== Sys2Proof/Laws/FrameClients.lean ====
section
/-! SUPPORT. The frames of the connection unit's and the thermal unit's operations, and of the end of a command. -/

set_option Elab.async false

namespace Sys2Proof.Machine

/-! ## The connection unit -/

/-- What the connection unit's operations change. -/
abbrev connBlocks : List Block := [.conn, .limit, .line, .permit, .notices, .free]

/-- What a change of state changes: a free cause may have been taken (R168, log entry 13). -/
abbrev exitBlocks : List Block := [.conn, .limit, .free]

theorem changeState_same (p : ConnPhase) (t : Timer) (c : Option ExitCause) (w : Work) :
    Same exitBlocks w (changeState p t c w) :=
  ((takeFree_same _ w).comp ((recordSwitches_same p _).comp (updateConn_same _ _) (K := [.conn])) (K := [.conn, .free])).comp
    (Same.onlyIf (leaveConnected_same _))

theorem leaveOpenTest_same (w : Work) : Same connBlocks w (leaveOpenTest w) := by
  unfold leaveOpenTest; split
  · exact (changeState_same _ _ _ w).comp (placeNeed_same _ _)
  · exact .refl _ _

theorem enterOpen_same (c : Option ExitCause) (w : Work) : Same connBlocks w (enterOpen c w) :=
  (changeState_same _ _ _ w).comp (leaveOpenTest_same _)

theorem enterLocked_same (c : Option ExitCause) (add : LockReasons → LockReasons) (w : Work) :
    Same exitBlocks w (enterLocked c add w) :=
  (updateConn_same _ w).comp (changeState_same _ _ _ _)

theorem enterTripped_same (c : ExitCause) (w : Work) : Same exitBlocks w (enterTripped c w) := by
  unfold enterTripped; split
  · exact enterLocked_same _ _ w
  · exact changeState_same _ _ _ w

theorem unlockIfEmpty_same (w : Work) : Same connBlocks w (unlockIfEmpty w) := by
  unfold unlockIfEmpty; split
  · exact enterOpen_same _ w
  · exact .refl _ _

theorem withdraw_same (w : Work) : Same connBlocks w (withdraw w) := (cancelNeed_same _ w).comp (enterOpen_same _ _)

theorem abortState_same (c : ExitCause) (w : Work) : Same exitBlocks w (abortState c w) := by
  unfold abortState; split
  · exact changeState_same _ _ _ w
  · exact changeState_same _ _ _ w
  · exact changeState_same _ _ _ w
  · exact enterLocked_same _ _ w
  · exact enterLocked_same _ _ w
  · split
    · exact (updateConn_same _ w).comp (Same.ite (K := exitBlocks) (enterLocked_same _ _ _) (enterTripped_same _ _))
    · exact enterTripped_same _ w

theorem abort_same (c : ExitCause) (w : Work) : Same connBlocks w (abort c w) :=
  ((abortState_same c w).comp (completeNeed_same _ _ _) (K := connBlocks)).comp (leaveOpenTest_same _)

theorem enterPrecharging_same (w : Work) : Same exitBlocks w (enterPrecharging w) :=
  (changeState_same _ _ _ w).comp (updateConn_same _ _)

theorem enterConnected_same (w : Work) : Same connBlocks w (enterConnected w) :=
  ((changeState_same _ _ _ w).comp (updateConn_same _ _) (K := exitBlocks)).comp (completeNeed_same _ _ _)

theorem connHeld_same (w : Work) : Same connBlocks w (connHeld w) := by
  unfold connHeld; split
  · exact (enterPrecharging_same w).mono
  · exact (completeNeed_same _ _ w).mono

theorem connCleared_same (w : Work) : Same connBlocks w (connCleared w) := by
  unfold connCleared; split
  · exact enterOpen_same _ w
  · split
    · exact abort_same _ w
    · exact .refl _ _

theorem connEnded_same (w : Work) : Same connBlocks w (connEnded w) := by
  unfold connEnded; split
  · exact abort_same _ w
  · exact .refl _ _

theorem enterDisconnecting_same (c : ExitCause) (w : Work) : Same exitBlocks w (enterDisconnecting c w) :=
  (changeState_same _ _ _ w).comp (updateConn_same _ _)

theorem finishDisconnect_same (w : Work) : Same connBlocks w (finishDisconnect w) :=
  ((updateConn_same _ w).comp (takeFree_same 1 _) (K := [.conn, .free])).comp
    (Same.ite (K := connBlocks) (enterLocked_same _ _ _) (enterOpen_same _ _))

theorem orderlyCause_same (c : ExitCause) (w : Work) : Same connBlocks w (orderlyCause c w) := by
  unfold orderlyCause; split
  · exact withdraw_same w
  · split
    · exact abort_same _ w
    · split
      · exact (enterDisconnecting_same _ w).mono
      · exact .refl _ _

theorem immediateOpen_same (c : ExitCause) (w : Work) : Same connBlocks w (immediateOpen c w) := by
  unfold immediateOpen; split
  · exact abort_same _ w
  · split
    · exact (updateConn_same _ w).comp (enterTripped_same _ _)
    · exact .refl _ _

theorem hazardLock_same (w : Work) : Same connBlocks w (hazardLock w) := by
  unfold hazardLock; split
  · exact abort_same _ w
  · split
    · exact (updateConn_same _ w).mono
    · exact Same.comp (K₁ := connBlocks)
        ((Same.ite (K := connBlocks) (cancelNeed_same _ w) (.refl [] w)).comp (updateConn_same _ _)) (enterLocked_same _ _ _)

theorem connHazardReport_same (w : Work) : Same connBlocks w (connHazardReport w) := by
  unfold connHazardReport; split
  · split
    · exact hazardLock_same w
    · exact (updateConn_same _ w).comp (Same.ite (K := connBlocks)
        ((unlockIfEmpty_same _).comp (orderlyCause_same _ _) (K := connBlocks))
        ((unlockIfEmpty_same _).comp (leaveOpenTest_same _) (K := connBlocks)))
  · exact .refl _ _

theorem connDuplicate_same (w : Work) : Same connBlocks w (connDuplicate w) := by
  unfold connDuplicate; split
  · split
    · exact (enterLocked_same _ _ w).mono
    · exact (enterLocked_same _ _ w).mono
    · exact (cancelNeed_same _ w).comp (enterLocked_same _ _ _)
    · exact (updateConn_same _ w).mono
    · exact abort_same _ w
    · exact abort_same _ w
    · exact (enterDisconnecting_same _ w).mono
    · exact (enterDisconnecting_same _ w).mono
    · exact .refl _ _
  · exact .refl _ _

theorem stopTest_same (w : Work) : Same exitBlocks w (stopTest w) := by
  unfold stopTest; split
  · exact enterDisconnecting_same _ w
  · exact .refl _ _

theorem connDispatchReport_same (w : Work) : Same connBlocks w (connDispatchReport w) := by
  unfold connDispatchReport; split
  · split
    · exact leaveOpenTest_same w
    · split
      · exact (stopTest_same w).mono
      · split
        · exact Same.ite (enterDisconnecting_same _ w) (.refl [] w)
        · exact Same.ite (orderlyCause_same _ w) (.refl [] w)
  · exact .refl _ _

theorem connVisibilityReport_same (w : Work) : Same connBlocks w (connVisibilityReport w) := by
  unfold connVisibilityReport; split
  · exact (updateConn_same _ w).comp (leaveOpenTest_same _)
  · exact .refl _ _

theorem visibilityExpires_same (w : Work) : Same connBlocks w (visibilityExpires w) := by
  unfold visibilityExpires; split
  · exact (updateConn_same _ w).comp (orderlyCause_same _ _)
  · exact .refl _ _

theorem connFastTrip_same (d : Direction) (w : Work) : Same connBlocks w (connFastTrip d w) := by
  unfold connFastTrip; split
  · exact (updateConn_same _ w).comp (Same.ite (K := connBlocks) (withdraw_same _) (immediateOpen_same _ _))
  · exact .refl _ _

theorem connFastTripClear_same (d : Direction) (w : Work) : Same connBlocks w (connFastTripClear d w) := by
  unfold connFastTripClear; split
  · exact (updateConn_same _ w).comp (leaveOpenTest_same _)
  · exact .refl _ _

theorem connSummary_same (w : Work) : Same connBlocks w (connSummary w) := by
  unfold connSummary; split
  · split
    · exact (immediateOpen_same _ w).comp (leaveOpenTest_same _)
    · exact leaveOpenTest_same w
  · exact .refl _ _

theorem connRetest_same (w : Work) : Same connBlocks w (connRetest w) := Same.ite (leaveOpenTest_same w) (.refl [] w)

theorem connMaintenanceClear_same (w : Work) : Same connBlocks w (connMaintenanceClear w) := by
  unfold connMaintenanceClear; split
  · exact (updateConn_same _ w).comp (unlockIfEmpty_same _)
  · exact .refl _ _

theorem linkLost_same (w : Work) : Same connBlocks w (linkLost w) :=
  (updateConn_same _ w).comp (Same.ite (K := connBlocks) (withdraw_same _) (immediateOpen_same _ _))

theorem countMiss_same (w : Work) : Same connBlocks w (countMiss w) := by
  unfold countMiss; split
  · exact (updateConn_same _ w).comp (Same.ite (K := connBlocks) (linkLost_same _) (.refl [] _))
  · exact .refl _ _

theorem sendSetpoint_same (w : Work) : Same [.conn] w (sendSetpoint w) := updateConn_same _ w

theorem connPeriod_same (w : Work) : Same connBlocks w (connPeriod w) :=
  Same.ite (K₁ := connBlocks) (K₂ := [])
    (((countMiss_same w).comp (sendSetpoint_same _) (K := connBlocks)).comp (stopTest_same _)) (.refl _ _)

theorem enterRideThrough_same (w : Work) : Same connBlocks w (enterRideThrough w) :=
  (changeState_same _ _ _ w).comp (Same.ite (K := connBlocks) (enterOpen_same _ _) (.refl [] _))

theorem useAnswer_same (a : ConverterAnswer) (w : Work) : Same connBlocks w (useAnswer a w) := by
  unfold useAnswer; split
  · exact .refl _ _
  · exact .refl _ _
  · exact .refl _ _
  · exact Same.ite (.refl [] w) (withdraw_same w)
  · exact Same.ite (abort_same _ w) (Same.ite (K := connBlocks) (abort_same _ w)
      (Same.ite (K := connBlocks) (changeState_same _ _ _ w) (.refl [] w)))
  · exact Same.ite (abort_same _ w) (Same.ite (K := connBlocks) (abort_same _ w)
      (Same.ite (K := connBlocks) (enterConnected_same w) (.refl [] w)))
  · exact Same.ite (immediateOpen_same _ w) (Same.ite (K := connBlocks) (enterRideThrough_same w) (.refl [] w))
  · exact Same.ite (immediateOpen_same _ w) (Same.ite (K := connBlocks) (changeState_same _ _ _ w) (.refl [] w))
  · exact Same.ite (immediateOpen_same _ w) (Same.ite (K := connBlocks) (finishDisconnect_same w) (.refl [] w))

theorem connAnswer_same (a : ConverterAnswer) (w : Work) : Same connBlocks w (connAnswer a w) := by
  unfold connAnswer; split
  · exact (updateConn_same _ w).comp (useAnswer_same _ _)
  · exact .refl _ _

theorem gridDelayReached_same (w : Work) : Same connBlocks w (gridDelayReached w) := by
  unfold gridDelayReached; split
  · exact (updateConn_same _ w).comp (leaveOpenTest_same _)
  · exact .refl _ _

theorem prechargeTimesOut_same (w : Work) : Same connBlocks w (prechargeTimesOut w) :=
  Same.ite (abort_same _ w) (.refl [] w)
theorem readyTimesOut_same (w : Work) : Same connBlocks w (readyTimesOut w) := Same.ite (abort_same _ w) (.refl [] w)
theorem rideTimesOut_same (w : Work) : Same connBlocks w (rideTimesOut w) := Same.ite (enterOpen_same _ w) (.refl [] w)
theorem disconnectTimesOut_same (w : Work) : Same connBlocks w (disconnectTimesOut w) :=
  Same.ite (finishDisconnect_same w) (.refl [] w)

theorem retryDelayEnds_same (w : Work) : Same connBlocks w (retryDelayEnds w) := by
  unfold retryDelayEnds; split
  · exact (updateConn_same _ w).comp (enterOpen_same _ _)
  · exact .refl _ _

theorem periodExpires_same (w : Work) : Same connBlocks w (periodExpires w) := by
  unfold periodExpires; split
  · exact (setpointStep_same w).comp (connPeriod_same _)
  · exact .refl _ _

/-! ## The thermal unit -/

/-- What the thermal unit's operations change. -/
abbrev thermalBlocks : List Block := [.thermal, .limit, .line, .permit, .notices]

theorem updateDerate_same (w : Work) : Same [.thermal, .limit] w (updateDerate w) :=
  (updateThermal_same _ w).comp (reportThermalDerate_same _)

theorem giveUpNeed_same (w : Work) : Same thermalBlocks w (giveUpNeed w) := by
  unfold giveUpNeed; dsimp only; split
  · exact ((cancelNeed_same _ w).comp (updateThermal_same _ _) (K := thermalBlocks)).comp (updateDerate_same _)
  · exact (updateThermal_same _ w).comp (updateDerate_same _)

theorem enqueueNeed_same (s : Stage) (w : Work) : Same thermalBlocks w (enqueueNeed s w) :=
  (updateThermal_same _ w).comp ((updateDerate_same _).comp (placeNeed_same _ _) (K := thermalBlocks))

theorem handleStep_same (next : Stage) (w : Work) : Same thermalBlocks w (handleStep next w) :=
  Same.ite (.refl [] w) (Same.ite (K := thermalBlocks) (updateThermal_same _ w) (enqueueNeed_same _ w))

theorem handleWant_same (next : Stage) (w : Work) : Same thermalBlocks w (handleWant next w) := by
  unfold handleWant; split
  · exact handleStep_same next w
  · exact Same.ite (.refl [] w) ((giveUpNeed_same w).comp (handleStep_same _ _) (K := thermalBlocks))
  · exact Same.ite (.refl [] w) ((giveUpNeed_same w).comp (handleStep_same _ _) (K := thermalBlocks))
  · exact .refl _ _

theorem thermalSummary_same (w : Work) : Same thermalBlocks w (thermalSummary w) := by
  unfold thermalSummary; split
  · split
    · exact handleWant_same _ w
    · exact .refl _ _
  · exact .refl _ _

theorem retryExpires_same (w : Work) : Same thermalBlocks w (retryExpires w) := by
  unfold retryExpires; split
  · split
    · exact Same.ite (enqueueNeed_same _ w) ((giveUpNeed_same w).comp (handleStep_same _ _) (K := thermalBlocks))
    · exact giveUpNeed_same w
  · exact .refl _ _

theorem giveUpPursuit_same (w : Work) : Same thermalBlocks w (giveUpPursuit w) := by
  unfold giveUpPursuit; split
  · exact ((completeNeed_same _ _ w).comp (updateThermal_same _ _) (K := thermalBlocks)).comp (updateDerate_same _)
  · exact giveUpNeed_same w

theorem enterForced_same (m : ForcedMode) (w : Work) : Same thermalBlocks w (enterForced m w) :=
  (Same.ite (K := thermalBlocks) (giveUpPursuit_same w) (.refl [] w)).comp (updateThermal_same _ _)

theorem thermalHazardReport_same (w : Work) : Same thermalBlocks w (thermalHazardReport w) :=
  Same.ite (.refl [] w) (enterForced_same _ w)

theorem thermalHeld_same (w : Work) : Same thermalBlocks w (thermalHeld w) := by
  unfold thermalHeld; split
  · dsimp only
    split
    · exact ((updateThermal_same _ w).comp ((updateThermal_same _ _).comp (updateDerate_same _) (K := [.thermal, .limit]))
        (K := [.thermal, .limit])).comp (Same.ite (K := thermalBlocks) (.refl [] _) (completeNeed_same _ _ _))
    · exact ((updateThermal_same _ w).comp (updateThermal_same _ _) (K := [.thermal])).comp (completeNeed_same _ _ _)
  · exact (completeNeed_same _ _ w).mono

theorem thermalCleared_same (w : Work) : Same thermalBlocks w (thermalCleared w) :=
  Same.ite (.refl [] w) ((updateThermal_same _ w).comp (updateDerate_same _) (K := [.thermal, .limit]))

theorem completeStarting_same (w : Work) : Same thermalBlocks w (completeStarting w) :=
  Same.ite (K₁ := thermalBlocks) ((updateThermal_same _ w).comp (completeNeed_same _ _ _)) (.refl [] w)

theorem feedbackChanges_same (a : Bool) (w : Work) : Same thermalBlocks w (feedbackChanges a w) := by
  unfold feedbackChanges; dsimp only
  split
  · split
    · split
      · exact ((updateThermal_same _ w).comp (updateThermal_same _ _) (K := [.thermal])).comp (completeStarting_same _)
      · exact (updateThermal_same _ w).mono
    · split
      · exact (updateThermal_same _ w).comp (updateThermal_same _ _)
      · exact (updateThermal_same _ w).mono
  · exact (updateThermal_same _ w).mono

theorem monitorExpires_same (w : Work) : Same thermalBlocks w (monitorExpires w) := by
  unfold monitorExpires; split
  · exact ((updateThermal_same _ w).comp (updateDerate_same _) (K := [.thermal, .limit])).comp (completeStarting_same _)
  · exact .refl _ _

theorem minOnExpires_same (w : Work) : Same [.thermal] w (minOnExpires w) := Same.ite (updateThermal_same _ w) (.refl [] w)
theorem minOffExpires_same (w : Work) : Same [.thermal] w (minOffExpires w) := Same.ite (updateThermal_same _ w) (.refl [] w)
theorem tachPulses_same (d : PwmDrive) (w : Work) : Same [.thermal] w (tachPulses d w) :=
  Same.ite (updateThermal_same _ w) (.refl [] w)
theorem tachWindowEnds_same (w : Work) : Same [.thermal, .limit] w (tachWindowEnds w) :=
  Same.ite (K₁ := [.thermal, .limit]) ((updateThermal_same _ w).comp (updateDerate_same _)) (.refl [] w)
theorem pwmPeriodStarts_same (w : Work) : Same [.thermal] w (pwmPeriodStarts w) :=
  Same.ite (updateThermal_same _ w) (.refl [] w)

theorem fallBackToCirculate_same (w : Work) : Same thermalBlocks w (fallBackToCirculate w) :=
  Same.ite (K₁ := thermalBlocks) ((giveUpNeed_same w).comp (updateThermal_same _ _)) (.refl [] w)

theorem thermalMaintenanceClear_same (w : Work) : Same thermalBlocks w (thermalMaintenanceClear w) :=
  ((updateThermal_same _ w).comp (fallBackToCirculate_same _) (K := thermalBlocks)).comp
    ((Same.ite (K := [.thermal]) (updateThermal_same _ _) (.refl [] _)).comp (updateDerate_same _) (K := [.thermal, .limit]))

/-! ## The end of a command -/

/-- What the clients of the permit unit change when notices reach them. -/
abbrev clientBlocks : List Block := [.conn, .thermal, .limit, .line, .permit, .notices, .free]

theorem takeNotice_same (n : Notice) (w : Work) : Same clientBlocks w (takeNotice n w) := by
  unfold takeNotice; split
  · exact Same.ite (thermalHeld_same w) (connHeld_same w)
  · exact Same.ite (thermalCleared_same w) (connCleared_same w)
  · exact Same.ite (.refl [] w) (connEnded_same w)

theorem deliver_same (fuel : Nat) (w : Work) : Same clientBlocks w (deliver fuel w) := by
  induction fuel generalizing w with
  | zero => exact .refl _ _
  | succ n ih =>
    unfold deliver; split
    · exact .refl _ _
    · exact ((setNotices_same _ w).comp (takeNotice_same _ _) (K := clientBlocks)).comp (ih _)

theorem refreshLamps_same (w : Work) : Same [.lamps, .free] w (refreshLamps w) := by
  unfold refreshLamps; split
  · exact .refl _ _
  · intro b hb; cases b <;> simp_all [Block.agrees]

/-- What the end of a command changes. -/
abbrev finishBlocks : List Block := .lamps :: clientBlocks

theorem finish_same (w : Work) : Same finishBlocks w (finish w) := (deliver_same _ w).comp (refreshLamps_same _)

/-- Without a notice only the lamps follow. -/
theorem finish_of_no_notices {w : Work} (h : w.notices = []) : finish w = refreshLamps w := by
  simp [finish, noticeFuel, deliver, h]

end Sys2Proof.Machine
end

