-- ==== Sys2Proof/Laws/FrameHazard.lean ====
section
/-! SUPPORT. The frames of the hazard unit's, the scan unit's, the analog watch unit's and the measurement blocks' operations. -/

set_option Elab.async false

namespace Sys2Proof.Machine

/-! ## The lockout record -/

theorem requestLockout_same (c : LockoutContent) (w : Work) : Same [.request, .hazard] w (requestLockout c w) :=
  (updateLoader_same).comp (updateHazard_same)

theorem startWrite_same (w : Work) : Same [.request, .writing] w (startWrite w) := by
  unfold startWrite; split
  · exact Same.ite updateLoader_port (.refl [] w)
  · exact .refl _ _

/-- What the end of a lockout write changes. -/
abbrev writeBlocks : List Block := [.mem, .request, .writing, .hazard, .conn, .limit, .line, .permit, .notices, .free]

theorem writeSucceeds_same (x : SlotWrite) (w : Work) : Same (.hazard :: connBlocks) w (writeSucceeds x w) :=
  (updateHazard_same).comp (connRetest_same _)

theorem writeFails_same (x : SlotWrite) (w : Work) : Same [.hazard] w (writeFails x w) :=
  updateHazard_same (by split <;> rfl) (by split <;> rfl)

theorem endWrite_same (a : Bool) (held : List Byte) (w : Work) : Same writeBlocks w (endWrite a held w) := by
  unfold endWrite; split
  · exact ((updateMem_same _ w).comp (updateLoader_port) (K := [.mem, .request, .writing])).comp
      (Same.ite (K := .hazard :: connBlocks) (writeSucceeds_same _ _) (writeFails_same _ _))
  · exact .refl _ _

theorem retryWrite_same (w : Work) : Same [.request, .hazard] w (retryWrite w) := by
  unfold retryWrite; split
  · exact requestLockout_same _ w
  · exact .refl _ _

/-! ## The hazard level -/

/-- What a change of the hazard level changes. -/
abbrev levelBlocks : List Block :=
  [.hazard, .level, .course, .latches, .urgent, .request, .balance, .thermal, .conn, .limit, .line, .permit, .notices, .free]

theorem updateHazard_any (f : HazardState → HazardState) (w : Work) : Same [.hazard, .level, .course, .latches] w (updateHazard f w) := by
  intro b hb; cases b <;> simp_all [Block.agrees]

theorem inhibit_same (r : BalanceResult) (w : Work) : Same [.balance] w (inhibit r w) := updateBalance_same _ w
theorem balanceHazardReport_same (w : Work) : Same [.balance] w (balanceHazardReport w) :=
  Same.ite (inhibit_same _ w) (.refl [] w)
theorem balanceSample_same (w : Work) : Same [.balance] w (balanceSample w) := Same.ite (.refl [] w) (inhibit_same _ w)

theorem reportLevel_same (old : HazardLevel) (w : Work) : Same (.balance :: clientBlocks) w (reportLevel old w) :=
  (permitHazardReport_same _ w).comp ((thermalHazardReport_same _).comp ((balanceHazardReport_same _).comp
    ((reportHazardDerate_same _).comp (connHazardReport_same _) (K := connBlocks))
    (K := .balance :: connBlocks)) (K := .balance :: clientBlocks))

theorem changeLevel_same (new : HazardLevel) (c : Cause) (w : Work) : Same levelBlocks w (changeLevel new c w) := by
  unfold changeLevel; dsimp only
  refine Same.comp (K₁ := [.hazard, .level, .course, .latches, .request]) (K₂ := .urgent :: .balance :: clientBlocks)
    ?_ ((placeHazard_same _ _).comp (reportLevel_same _ _))
  exact (updateHazard_any _ w).comp (Same.ite (K := [.request, .hazard]) (requestLockout_same _ _) (.refl [] _))

theorem enterReleasing_same (w : Work) : Same levelBlocks w (enterReleasing w) :=
  (changeLevel_same _ _ w).comp (Same.ite (K := levelBlocks) (changeLevel_same _ _ _) (.refl [] _))

theorem applyRising_same (l : List Indication) (w : Work) : Same levelBlocks w (applyRising l w) :=
  Same.ite (changeLevel_same _ _ w) (.refl [] w)

theorem HazardState.preTimers_level (h : HazardState) : h.preTimers.level = h.level := by
  unfold HazardState.preTimers; split
  · split <;> rfl
  · rfl
theorem HazardState.preTimers_latches (h : HazardState) : h.preTimers.latches = h.latches := by
  unfold HazardState.preTimers; split
  · split <;> rfl
  · rfl
theorem HazardState.quietTimer_level (h : HazardState) : h.quietTimer.level = h.level := by
  unfold HazardState.quietTimer; split <;> rfl
theorem HazardState.quietTimer_latches (h : HazardState) : h.quietTimer.latches = h.latches := by
  unfold HazardState.quietTimer; split <;> rfl

theorem changeSet_same (l : List Indication) (w : Work) : Same levelBlocks w (changeSet l w) := by
  unfold changeSet; split
  · exact .refl _ _
  · exact ((updateHazard_any _ w).comp (thermalHazardReport_same _) (K := levelBlocks)).comp
      ((updateHazard_any _ _).comp (applyRising_same _ _) (K := levelBlocks))

theorem changeMember_same (i : Indication) (p : Bool) (w : Work) : Same levelBlocks w (changeMember i p w) := changeSet_same _ w

theorem smokeBandMoves_same (l : DetectorLoop) (mv : Nat) (w : Work) : Same [.hazard] w (smokeBandMoves l mv w) :=
  updateHazard_same (by cases l <;> rfl) (by cases l <;> rfl)

theorem smokeSettles_same (l : DetectorLoop) (w : Work) : Same levelBlocks w (smokeSettles l w) := by
  unfold smokeSettles; split
  · exact (updateHazard_any _ w).comp (changeSet_same _ _)
  · exact .refl _ _

theorem dischargedActive_same (w : Work) : Same levelBlocks w (dischargedActive w) :=
  Same.ite (changeLevel_same _ _ w) (.refl [] w)

theorem hazardSummary_same (s : Summary) (w : Work) : Same levelBlocks w (hazardSummary s w) := by
  unfold hazardSummary; split
  · exact changeMember_same _ _ w
  · exact .refl _ _

theorem heatSamples_same (w : Work) : Same levelBlocks w (heatSamples w) := by
  unfold heatSamples; split
  · exact (updateHazard_any _ w).comp (changeMember_same _ _ _)
  · exact .refl _ _

theorem firstEvaluation_same (w : Work) : Same levelBlocks w (firstEvaluation w) := by
  unfold firstEvaluation; split
  · exact (updateHazard_any _ w).comp (Same.ite (K := levelBlocks)
      (Same.ite (K := levelBlocks) (changeLevel_same _ _ _) (.refl [] _))
      ((applyRising_same _ _).comp (Same.ite (K := levelBlocks) (dischargedActive_same _) (.refl [] _)) (K := levelBlocks)))
  · exact .refl _ _

theorem escalates_same (w : Work) : Same levelBlocks w (escalates w) := Same.ite (changeLevel_same _ _ w) (.refl [] w)
theorem fallsBack_same (w : Work) : Same levelBlocks w (fallsBack w) := Same.ite (changeLevel_same _ _ w) (.refl [] w)
theorem quietEnds_same (w : Work) : Same levelBlocks w (quietEnds w) := Same.ite (changeLevel_same _ _ w) (.refl [] w)
theorem countdownEnds_same (w : Work) : Same levelBlocks w (countdownEnds w) := Same.ite (enterReleasing_same w) (.refl [] w)
theorem confirmationExpires_same (w : Work) : Same [.hazard, .latches] w (confirmationExpires w) := by
  unfold confirmationExpires; split
  · intro b hb; cases b <;> simp_all [Block.agrees, HazardState.course]
  · exact .refl _ _

theorem reviewNeighbours_same (w : Work) : Same [.hazard, .limit] w (reviewNeighbours w) := by
  unfold reviewNeighbours; dsimp only; split
  · exact .refl _ _
  · exact (updateHazard_same).comp (reportHazardDerate_same _)

theorem hazardMaintenanceClear_same (w : Work) : Same levelBlocks w (hazardMaintenanceClear w) := by
  unfold hazardMaintenanceClear; split
  · exact .refl _ _
  · split
    · exact ((changeLevel_same _ _ w).comp (updateHazard_any _ _) (K := levelBlocks)).comp
        ((requestLockout_same _ _).comp (applyRising_same _ _) (K := levelBlocks))
    · exact (updateHazard_any _ w).mono

/-! ## Charge accounting and balancing -/

theorem startEstimate_same (s : Summary) (w : Work) : Same [.charge, .free] w (startEstimate s w) := by
  intro b hb; cases b <;> simp_all [Block.agrees, startEstimate]

theorem testFull_same (w : Work) : Same [.charge] w (testFull w) := Same.ite (updateCharge_same _ w) (updateCharge_same _ w)
theorem calibrateFull_same (w : Work) : Same [.charge] w (calibrateFull w) := Same.ite (updateCharge_same _ w) (.refl [] w)

theorem testEmpty_same (s : Summary) (w : Work) : Same [.charge] w (testEmpty s w) := by
  unfold testEmpty; split
  · split
    · exact Same.ite (updateCharge_same _ w) (updateCharge_same _ w)
    · exact updateCharge_same _ w
  · exact .refl _ _

theorem chargeSummary_same (s : Summary) (w : Work) : Same [.charge, .free] w (chargeSummary s w) :=
  (Same.ite (K := [.charge, .free]) (startEstimate_same s w) (.refl [] w)).comp
    ((testEmpty_same s _).comp (testFull_same _) (K := [.charge]))

theorem chargeSample_same (w : Work) : Same [.charge] w (chargeSample w) := by
  unfold chargeSample; split
  · exact (updateCharge_same _ w).comp (testFull_same _)
  · exact .refl _ _

theorem chargeVisibility_same (w : Work) : Same [.charge] w (chargeVisibility w) := Same.ite (testFull_same w) (.refl [] w)

theorem evaluateBalance_same (w : Work) : Same [.balance] w (evaluateBalance w) := by
  unfold evaluateBalance; split
  · exact Same.ite (updateBalance_same _ w) (updateBalance_same _ w)
  · exact .refl _ _
theorem balanceSummary_same (w : Work) : Same [.balance] w (balanceSummary w) := updateBalance_same _ w
theorem retestSets_same (w : Work) : Same [.balance] w (retestSets w) := updateBalance_same _ w
theorem creditRound_same (r : Round) (w : Work) : Same [.balance] w (creditRound r w) := updateBalance_same _ w

/-! ## The scan unit -/

theorem startRound_same (w : Work) : Same [.scan, .balance] w (startRound w) := by
  unfold startRound; split
  · exact (updateBalance_same _ w).comp (updateScan_same _ _)
  · exact .refl _ _

theorem requestSent_same (w : Work) : Same [.scan] w (requestSent w) := by
  unfold requestSent; split
  · exact updateScan_same _ w
  · exact .refl _ _

/-- What a report of VISIBILITY_LOST changes. -/
abbrev visibilityBlocks : List Block := [.scan, .charge, .conn, .limit, .line, .permit, .notices, .free]

theorem reportVisibility_same (w : Work) : Same visibilityBlocks w (reportVisibility w) :=
  ((reportVisibilityFactor_same w).comp (chargeVisibility_same _) (K := visibilityBlocks)).comp (connVisibilityReport_same _)

theorem reviewVisibility_same (w : Work) : Same visibilityBlocks w (reviewVisibility w) :=
  Same.ite (K₂ := visibilityBlocks) (.refl [] w) ((updateScan_same _ w).comp (reportVisibility_same _))

/-- What the publication of a summary, and with it a round's completion, changes. -/
abbrev roundBlocks : List Block := [.scan, .charge] ++ levelBlocks

theorem readSummary_same (s : Summary) (w : Work) : Same roundBlocks w (readSummary s w) :=
  (chargeSummary_same s w).comp ((balanceSummary_same _).comp ((thermalSummary_same _).comp ((hazardSummary_same s _).comp
    ((limitSummary_same _).comp (connSummary_same _) (K := connBlocks)) (K := levelBlocks)) (K := levelBlocks))
    (K := levelBlocks))

theorem publish_same (w : Work) : Same roundBlocks w (publish w) :=
  Same.ite (K₁ := roundBlocks) ((updateScan_same _ w).comp (readSummary_same _ _)) (.refl [] w)

theorem completeRound_same (w : Work) : Same roundBlocks w (completeRound w) := by
  unfold completeRound; split
  · split
    · exact ((updateScan_same _ w).comp (reviewVisibility_same _) (K := visibilityBlocks)).comp
        ((publish_same _).comp ((retestSets_same _).comp (creditRound_same _ _) (K := [.balance])) (K := roundBlocks))
    · exact .refl _ _
  · exact .refl _ _

theorem updateModule_same (i : Nat) (f : ModuleRecord → ModuleRecord) (w : Work) : Same [.scan] w (updateModule i f w) :=
  updateScan_same _ w
theorem settleWindow_same (i : Nat) (win : Window) (w : Work) : Same [.scan] w (settleWindow i win w) := updateScan_same _ w

theorem takeReport_same (r : ModuleReport) (w : Work) : Same roundBlocks w (takeReport r w) := by
  unfold takeReport; split
  · exact ((updateModule_same _ _ w).comp (settleWindow_same _ _ _) (K := [.scan])).comp (completeRound_same _)
  · exact .refl _ _

theorem expireWindow_same (n : Nat) (w : Work) : Same roundBlocks w (expireWindow n w) := by
  unfold expireWindow; dsimp only; split
  · exact ((updateModule_same _ _ w).comp (settleWindow_same _ _ _) (K := [.scan])).comp
      ((Same.ite (K := [.balance]) (updateBalance_same _ _) (.refl [] _)).comp
        ((reviewVisibility_same _).comp (completeRound_same _) (K := roundBlocks)) (K := roundBlocks))
  · exact .refl _ _

theorem scanMaintenanceClear_same (w : Work) : Same visibilityBlocks w (scanMaintenanceClear w) :=
  (updateScan_same _ w).comp (reviewVisibility_same _)

/-! ## The analog watch unit -/

theorem convertCurrent_same (i : Int) (w : Work) : Same [.analog, .charge, .balance] w (convertCurrent i w) :=
  Same.ite (K₁ := [.analog, .charge, .balance]) ((updateAnalog_same _ w).comp ((chargeSample_same _).comp
    (balanceSample_same _) (K := [.charge, .balance]))) (.refl [] w)
theorem convertGas_same (a b : Nat) (w : Work) : Same [.analog] w (convertGas a b w) := Same.ite (updateAnalog_same _ w) (.refl [] w)
theorem convertTemperatures_same (a b c : Int) (w : Work) : Same [.analog] w (convertTemperatures a b c w) :=
  Same.ite (updateAnalog_same _ w) (.refl [] w)

theorem compareTrip_same (d : Direction) (i : Int) (w : Work) : Same (.analog :: connBlocks) w (compareTrip d i w) := by
  unfold compareTrip; dsimp only; split
  · exact (updateAnalog_same _ w).comp (Same.ite (K := connBlocks) (connFastTrip_same _ _) (connFastTripClear_same _ _))
  · exact .refl _ _

theorem takeLevel_same (l : DetectorLoop) (g : GasLevel) (ppm : Nat) (w : Work) :
    Same (.analog :: levelBlocks) w (takeLevel l g ppm w) :=
  Same.ite (K₂ := .analog :: levelBlocks) (.refl [] w) ((updateAnalog_same _ w).comp (changeMember_same _ _ _))

theorem compareLevel_same (l : DetectorLoop) (g : GasLevel) (ppm : Nat) (w : Work) :
    Same (.analog :: levelBlocks) w (compareLevel l g ppm w) := Same.ite (takeLevel_same _ _ _ w) (.refl [] w)

theorem compareLoopFault_same (l : DetectorLoop) (i : Nat) (w : Work) :
    Same (.analog :: levelBlocks) w (compareLoopFault l i w) := by
  unfold compareLoopFault; dsimp only; split
  · exact ((updateAnalog_same _ w).comp (changeMember_same _ _ _) (K := .analog :: levelBlocks)).comp
      (Same.ite (K := .analog :: levelBlocks) (.refl [] _)
        ((takeLevel_same _ _ _ _).comp (takeLevel_same _ _ _ _) (K := .analog :: levelBlocks)))
  · exact .refl _ _

end Sys2Proof.Machine
end

