-- ==== Sys2Proof/Laws/FrameLine.lean ====
section
/-! SUPPORT. The frames of the peer table's, the receiver's, the loader's and the key switch's operations. -/

set_option Elab.async false

namespace Sys2Proof.Machine

/-! ## The peer table -/

theorem updateEntry_same (n : Nat) (f : PeerEntry → PeerEntry) (w : Work) : Same [.peers] w (updateEntry n f w) :=
  updatePeers_same _ w
theorem heard_same (n : Nat) (w : Work) : Same [.peers] w (heard n w) := updateEntry_same _ _ w
theorem reviewMismatch_same (w : Work) : Same [.peers] w (reviewMismatch w) := updatePeers_same _ w

theorem takePresent_same (n : Nat) (k : StationKind) (a : Announced) (w : Work) :
    Same [.peers, .line] w (takePresent n k a w) :=
  ((updateEntry_same _ _ w).comp (reviewMismatch_same _) (K := [.peers])).comp
    (Same.ite (K := [.line]) (.refl [] _) (placeRoutine_same _ _))

theorem takeStatus_same (n : Nat) (k : StationKind) (f : StatusFields) (l : HazardLevel) (w : Work) :
    Same [.peers, .hazard, .limit] w (takeStatus n k f l w) := (updateEntry_same _ _ w).comp (reviewNeighbours_same _)
theorem takeHazard_same (n : Nat) (l : HazardLevel) (f : HazardFields) (w : Work) :
    Same [.peers, .hazard, .limit] w (takeHazard n l f w) := (updateEntry_same _ _ w).comp (reviewNeighbours_same _)

theorem takeDispatch_same (n : Nat) (p : Int) (r : Nat) (m : DispatchMode) (w : Work) :
    Same (.peers :: connBlocks) w (takeDispatch n p r m w) := by
  unfold takeDispatch; split
  · exact ((updateEntry_same _ _ w).comp (updatePeers_same _ _) (K := [.peers])).comp
      (Same.ite (K := connBlocks) (.refl [] _) (connDispatchReport_same _))
  · exact .refl _ _

theorem dispatchStales_same (w : Work) : Same (.peers :: connBlocks) w (dispatchStales w) := by
  unfold dispatchStales; split
  · exact (updatePeers_same _ w).comp (connDispatchReport_same _)
  · exact .refl _ _

theorem ageEntries_same (w : Work) : Same [.peers] w (ageEntries w) := Same.ite (updatePeers_same _ w) (.refl [] w)
theorem noteHunt_same (w : Work) : Same [.peers] w (noteHunt w) := Same.ite (updatePeers_same _ w) (.refl [] w)

theorem listeningEnds_same (w : Work) : Same [.peers, .line] w (listeningEnds w) := by
  unfold listeningEnds; split
  · exact (updatePeers_same _ w).comp (placeRoutine_same _ _)
  · exact .refl _ _

theorem presentSent_same (w : Work) : Same [.peers] w (presentSent w) := Same.ite (updatePeers_same _ w) (.refl [] w)

theorem learningEnds_same (w : Work) : Same (.peers :: connBlocks) w (learningEnds w) := by
  unfold learningEnds; split
  · exact (updatePeers_same _ w).comp ((tryOpenAsk_same _).comp (connRetest_same _) (K := connBlocks))
  · exact .refl _ _

theorem statusDue_same (w : Work) : Same [.peers, .line] w (statusDue w) := by
  unfold statusDue; split
  · exact (updatePeers_same _ w).comp (placeRoutine_same _ _)
  · exact .refl _ _

/-! ## The receiver -/

theorem countError_same (w : Work) : Same [.line] w (countError w) := Same.ite (.refl [] w) changeLine_same
theorem setReceiver_same (rx : ReceiverState) (b : List Byte) (w : Work) : Same [.line] w (setReceiver rx b w) := changeLine_same
theorem discard_same (w : Work) : Same [.line] w (discard w) := (countError_same w).comp (setReceiver_same _ _ _)
theorem lineTaken_same (w : Work) : Same [.line] w (lineTaken w) := changeLine_same
theorem lineFreed_same (w : Work) : Same [.line] w (lineFreed w) := changeLine_same

/-- DUPLICATE changes, but not the urgent slot. -/
theorem changeLine_any {f : LineState → LineState} {w : Work} (slot : (f w.line).slot = w.line.slot := by rfl) :
    Same [.line, .duplicate] w (changeLine f w) := by
  intro b hb; cases b <;> simp_all [Block.agrees]

theorem setDuplicate_same (w : Work) : Same (.duplicate :: connBlocks) w (setDuplicate w) :=
  Same.ite (K₂ := .duplicate :: connBlocks) (.refl [] w)
    (((changeLine_any (w := w)).comp (emptyStores_same _) (K := [.line, .duplicate])).comp
      ((connDuplicate_same _).comp (permitDuplicate_same _) (K := connBlocks)))

theorem updateLoader_served {f : LoaderState → LoaderState} {w : Work} (fixed : (f w.loader).fixed = w.loader.fixed := by rfl)
    (request : (f w.loader).writeStore = w.loader.writeStore := by rfl)
    (writing : (f w.loader).writing = w.loader.writing ∧ (f w.loader).writeTimer = w.loader.writeTimer := by exact ⟨rfl, rfl⟩)
    (uptime : (f w.loader).clock = w.loader.clock := by rfl) :
    Same [.served] w (updateLoader f w) := by
  intro b hb; cases b <;> simp_all [Block.agrees]

theorem answerRead_same (s k i p : Nat) (w : Work) : Same [.served, .line] w (answerRead s k i p w) := by
  unfold answerRead; split
  · exact (updateLoader_served (w := w)).mono
  · exact (appendReply_same _ w).comp (updateLoader_served)

/-- What an accepted frame changes. -/
abbrev frameBlocks : List Block := [.duplicate, .peers, .hazard, .served] ++ connBlocks

theorem route_same (n : Nat) (m : Message) (w : Work) : Same frameBlocks w (route n m w) := by
  unfold route; split
  · exact (takePresent_same _ _ _ w).mono
  · exact (takeStatus_same _ _ _ _ w).mono
  · exact (takeHazard_same _ _ _ w).mono
  · exact (takeDispatch_same _ _ _ _ w).mono
  · exact Same.ite (.refl [] w) (answerAsk_same _ _ _ _ _ w)
  · exact Same.ite (.refl [] w) (takeGrant_same _ _ w)
  · exact Same.ite (.refl [] w) (takeDefer_same _ _ w)
  · exact Same.ite (.refl [] w) (takeRelease_same _ _ w)
  · exact Same.ite (.refl [] w) (answerRead_same _ _ _ _ w)
  · exact .refl _ _

theorem testAddresses_same (f : Frame) (m : Message) (w : Work) : Same frameBlocks w (testAddresses f m w) := by
  unfold testAddresses; split
  · exact (setDuplicate_same w).mono
  · split
    · exact .refl _ _
    · split
      · exact .refl _ _
      · split
        · exact .refl _ _
        · exact (heard_same _ w).comp (route_same _ _ _)

theorem testFrame_same (f : Frame) (w : Work) : Same frameBlocks w (testFrame f w) := by
  unfold testFrame; split
  · exact (countError_same w).mono
  · split
    · exact .refl _ _
    · split
      · exact (countError_same w).mono
      · exact testAddresses_same _ _ w

theorem completeFrame_same (c : List Byte) (w : Work) : Same frameBlocks w (completeFrame c w) :=
  (setReceiver_same _ _ w).comp (Same.ite (K := frameBlocks) (.refl [] _) (testFrame_same _ _))

theorem collect_same (b : List Byte) (w : Work) : Same frameBlocks w (collect b w) :=
  Same.ite (discard_same w) (Same.ite (K := frameBlocks) (completeFrame_same b w) (setReceiver_same _ _ w))

theorem characterArrives_same (c : Byte) (w : Work) : Same frameBlocks w (characterArrives c w) := by
  unfold characterArrives; split
  · dsimp only
    split
    · exact (lineFreed_same w).comp (Same.ite (K := frameBlocks) (collect_same _ _) (discard_same _))
    · exact (lineFreed_same w).comp (collect_same _ _)
    · exact (lineFreed_same w).mono
  · exact .refl _ _

theorem lastCharacter_same (c : Byte) (w : Work) : Same frameBlocks w (lastCharacter c w) :=
  Same.ite (K₁ := frameBlocks) ((lineFreed_same w).comp (completeFrame_same _ _)) (.refl [] w)

theorem lineAfter_same (f : ReceiveFault) (w : Work) : Same [.line] w (lineAfter f w) := by
  cases f
  · exact lineTaken_same w
  · exact lineTaken_same w
  · exact lineFreed_same w
  · exact lineFreed_same w

theorem receiveFaults_same (f : ReceiveFault) (w : Work) : Same [.line] w (receiveFaults f w) :=
  Same.ite (K₁ := [.line]) ((lineAfter_same f w).comp (discard_same _)) (.refl [] w)

theorem startBit_same (w : Work) : Same [.line] w (startBit w) :=
  Same.ite (K₁ := [.line]) ((lineTaken_same w).comp (setReceiver_same _ _ _))
    (Same.ite (K := [.line]) ((lineTaken_same w).comp (discard_same _) (K := [.line])) (lineTaken_same w))

theorem defers_same (w : Work) : Same [.line] w (defers w) :=
  Same.ite (K₁ := [.line]) ((countDeferral_same w).comp (startBit_same _)) (.refl [] w)

theorem lineQuiet_same (w : Work) : Same [.line, .peers] w (lineQuiet w) := by
  unfold lineQuiet; split
  · dsimp only
    split
    · exact (changeLine_same (w := w)).mono
    · exact (changeLine_same (w := w)).comp
        (((countError_same _).comp (setReceiver_same _ _ _) (K := [.line])).comp (noteHunt_same _) (K := [.line, .peers]))
    · exact (changeLine_same (w := w)).comp ((setReceiver_same _ _ _).comp (noteHunt_same _) (K := [.line, .peers]))
  · exact .refl _ _

theorem windowEnds_same (w : Work) : Same permitBlocks w (windowEnds w) := by
  unfold windowEnds; split
  · exact (changeLine_same (w := w)).comp (Same.onlyIf (tryOpenAsk_same _))
  · exact .refl _ _

theorem transmits_same (w : Work) : Same [.line, .urgent] w (transmits w) :=
  Same.ite (startSending_same w) (.refl [] w)

theorem frameIsSent_same (w : Work) : Same (.peers :: .urgent :: permitBlocks) w (frameIsSent w) := by
  unfold frameIsSent; split
  · split
    · exact (finishSending_same w).comp (permitFrameSent_same _ _)
    · exact (finishSending_same w).mono
  · split
    · exact (finishSending_same w).comp (presentSent_same _)
    · exact (finishSending_same w).mono
  · exact (finishSending_same w).mono
  · exact (finishSending_same w).mono
  · exact .refl _ _

/-! ## The loader, the key switch and the contacts -/

/-- What the loader's finish changes. -/
abbrev startBlocks : List Block := [.config, .scan, .analog, .peers] ++ levelBlocks

theorem startConversions_same (w : Work) : Same [.scan, .analog, .thermal] w (startConversions w) :=
  ((updateThermal_same _ w).comp (updateAnalog_same _ _) (K := [.analog, .thermal])).comp (updateScan_same _ _)

theorem startTimers_same (w : Work) : Same [.limit, .line, .peers] w (startTimers w) :=
  (updatePeers_same _ w).comp ((changeLine_same).comp (updateLimit_same _ _) (K := [.limit, .line]))

theorem startLevel_same (w : Work) : Same levelBlocks w (startLevel w) := Same.ite (changeLevel_same _ _ w) (.refl [] w)

theorem loaderFinishes_same (a : Bool) (w : Work) : Same startBlocks w (loaderFinishes a w) := by
  unfold loaderFinishes; split
  · refine Same.comp (K₁ := [.config, .hazard, .level, .course, .latches]) (K₂ := startBlocks)
      (w' := updateHazard _ (updateLoader (fun l => l.finished a (loadAll (portView a w.mem))) w)) ?_
      ((startConversions_same _).comp ((startTimers_same _).comp (startLevel_same _) (K := startBlocks)))
    refine Same.comp (K₁ := [.config]) ?_ (updateHazard_any _ _)
    intro b hb
    cases b <;> simp_all [Block.agrees, LoaderState.finished, LoaderState.clock]
  · exact .refl _ _

theorem secondPasses_same (w : Work) : Same [.uptime] w (secondPasses w) := by
  unfold secondPasses; split
  · exact .refl _ _
  · intro b hb; cases b <;> simp_all [Block.agrees, LoaderState.fixed]

/-- What maintenance clear changes. -/
abbrev clearBlocks : List Block := [.scan, .charge] ++ levelBlocks

theorem maintenanceClears_same (w : Work) : Same clearBlocks w (maintenanceClears w) :=
  ((scanMaintenanceClear_same w).comp (thermalMaintenanceClear_same _) (K := clearBlocks)).comp
    ((hazardMaintenanceClear_same _).comp (connMaintenanceClear_same _) (K := levelBlocks))

theorem keyTurned_same (w : Work) : Same (.key :: clearBlocks) w (keyTurned w) :=
  (updateKey_same _ w).comp (Same.ite (K := clearBlocks) (maintenanceClears_same _) (.refl [] _))
theorem keySettles_same (w : Work) : Same (.key :: clearBlocks) w (keySettles w) := Same.ite (keyTurned_same w) (.refl [] w)
theorem keyTurns_same (w : Work) : Same (.key :: clearBlocks) w (keyTurns w) := Same.ite (keyTurned_same w) (.refl [] w)

theorem terminalChanges_same (c : Contact) (a : Bool) (w : Work) : Same [.hazard, .key] w (terminalChanges c a w) := by
  unfold terminalChanges; split
  · exact (updateHazard_same (w := w)).mono
  · exact (updateHazard_same (w := w)).mono
  · exact (updateHazard_same (w := w)).mono
  · exact (updateHazard_same (w := w)).mono
  · exact (updateKey_same _ w).mono

theorem contactSettles_same (c : Contact) (w : Work) : Same (.key :: clearBlocks) w (contactSettles c w) := by
  unfold contactSettles; split
  · unfold callPointSettles; split
    · exact (updateHazard_any _ w).comp (changeMember_same _ _ _)
    · exact .refl _ _
  · exact Same.ite (updateHazard_any _ w) (.refl [] w)
  · exact Same.ite (updateHazard_any _ w) (.refl [] w)
  · unfold dischargedSettles; split
    · exact (updateHazard_any _ w).comp (Same.ite (K := levelBlocks) (dischargedActive_same _) (.refl [] _))
    · exact .refl _ _
  · exact keySettles_same w

theorem lampToggles_same (l : Lamp) (w : Work) : Same [.lamps] w (lampToggles l w) := by
  unfold lampToggles; split <;> exact updateLamps_same _ w

/-! ## Whole commands -/

/-- What a command that is no reset can change: the effect, then the notices and the lamps. -/
theorem runCommand_same {K : List Block} {f : Work → Work} {s t : State} (h : Same K (Work.start s) (f (Work.start s)))
    (run : runCommand f s = .next t) : Same (K ++ finishBlocks) (Work.start s) (Work.start t) := by
  have ht : t = (finish (f (Work.start s))).toState := by
    unfold runCommand at run
    exact (Host.Outcome.next.inj run).symm
  subst ht
  have hf := (h.mono (K' := K ++ finishBlocks) (fun b hb => List.mem_append_left _ hb)).comp
    (finish_same _) (K := K ++ finishBlocks) (s₁ := fun b hb => hb) (s₂ := fun b hb => List.mem_append_right _ hb)
  intro b hb
  have := hf b hb
  cases b <;> simp_all [Block.agrees]

end Sys2Proof.Machine
end

