-- ==== Sys2Proof/Laws/Stable.lean ====
section
/-! SUPPORT. Properties of the connection unit and of limit and share that every operation keeps. `Stable P` lists what a property has to
survive (a change of state, a quiet change of the connection unit's own fields, a capability update, a ramp step); one lemma per
operation then says that the operation keeps every stable property. -/

set_option Elab.async false

namespace Sys2Proof.Machine

/-- A property of `conn` and `limit` that survives the basic changes of those two. -/
structure Stable (P : Work → Prop) : Prop where
  frame : ∀ {w w' : Work}, w'.conn = w.conn → w'.limit = w.limit → w'.now = w.now → P w → P w'
  state : ∀ {w : Work} (p : ConnPhase) (t : Timer) (c : Option ExitCause), P w → P (changeState p t c w)
  quiet : ∀ {w : Work} (f : ConnState → ConnState), (f w.conn).phase = w.conn.phase → (f w.conn).drives = w.conn.drives →
    (f w.conn).lastExit = w.conn.lastExit → P w → P (updateConn f w)
  derate : ∀ {w : Work} (f : LimitState → LimitState), (f w.limit).setpoint = w.limit.setpoint →
    (f w.limit).cDis = w.limit.cDis → (f w.limit).cChg = w.limit.cChg → P w → P (updateLimit f w)
  update : ∀ {w : Work}, P w → P (capabilityUpdate w)
  step : ∀ {w : Work}, P w → P (setpointStep w)

/-- A property of both branches holds of the one taken. -/
theorem prop_ite {P : Work → Prop} {c : Prop} [Decidable c] {x y : Work} (hx : P x) (hy : P y) : P (if c then x else y) := by
  split <;> assumption

namespace Stable

variable {P : Work → Prop} (S : Stable P) {w w' : Work}
include S

/-- An operation that touches neither block keeps a stable property. -/
theorem same {K : List Block} (h : Same K w w') (p : P w) (hc : Block.conn ∉ K := by decide)
    (hl : Block.limit ∉ K := by decide) (hu : Block.uptime ∉ K := by decide) : P w' :=
  S.frame (h .conn hc).1 (h .limit hl) (congrArg Prod.fst (h .uptime hu)) p

/-! ## The connection unit -/

theorem leaveOpen (p : P w) : P (leaveOpenTest w) := by
  unfold leaveOpenTest
  exact prop_ite (S.same (placeNeed_same _ _) (S.state _ _ _ p)) p

theorem toOpen (c : Option ExitCause) (p : P w) : P (enterOpen c w) := S.leaveOpen (S.state _ _ _ p)

theorem toLocked (c : Option ExitCause) (add : LockReasons → LockReasons) (p : P w) : P (enterLocked c add w) :=
  S.state _ _ _ (S.quiet _ rfl rfl rfl p)

theorem toTripped (c : ExitCause) (p : P w) : P (enterTripped c w) := by
  unfold enterTripped
  exact prop_ite (S.toLocked _ _ p) (S.state _ _ _ p)

theorem unlock (p : P w) : P (unlockIfEmpty w) := prop_ite (S.toOpen _ p) p

theorem withdrawn (p : P w) : P (withdraw w) := S.toOpen _ (S.same (cancelNeed_same _ _) p)

theorem aborted (c : ExitCause) (p : P w) : P (abort c w) := by
  refine S.leaveOpen (S.same (completeNeed_same _ _ _) ?_)
  unfold abortState
  split
  · exact S.state _ _ _ p
  · exact S.state _ _ _ p
  · exact S.state _ _ _ p
  · exact S.toLocked _ _ p
  · exact S.toLocked _ _ p
  · split
    · exact prop_ite (S.toLocked _ _ (S.quiet _ rfl rfl rfl p)) (S.toTripped _ (S.quiet _ rfl rfl rfl p))
    · exact S.toTripped _ p

theorem toPrecharging (p : P w) : P (enterPrecharging w) := S.quiet _ rfl rfl rfl (S.state _ _ _ p)
theorem toConnected (p : P w) : P (enterConnected w) := S.same (completeNeed_same _ _ _) (S.quiet _ rfl rfl rfl (S.state _ _ _ p))
theorem held (p : P w) : P (connHeld w) := prop_ite (S.toPrecharging p) (S.same (completeNeed_same _ _ _) p)
theorem cleared (p : P w) : P (connCleared w) := prop_ite (S.toOpen _ p) (prop_ite (S.aborted _ p) p)
theorem ended (p : P w) : P (connEnded w) := prop_ite (S.aborted _ p) p
theorem toDisconnecting (c : ExitCause) (p : P w) : P (enterDisconnecting c w) := S.quiet _ rfl rfl rfl (S.state _ _ _ p)
theorem disconnected (p : P w) : P (finishDisconnect w) :=
  have q : P (takeFree 1 (updateConn (fun c => { c with exitPending := none }) w)) :=
    S.same (takeFree_same 1 _) (S.quiet _ rfl rfl rfl p)
  prop_ite (S.toLocked _ _ q) (S.toOpen _ q)
theorem orderly (c : ExitCause) (p : P w) : P (orderlyCause c w) :=
  prop_ite (S.withdrawn p) (prop_ite (S.aborted _ p) (prop_ite (S.toDisconnecting _ p) p))
theorem immediate (c : ExitCause) (p : P w) : P (immediateOpen c w) :=
  prop_ite (S.aborted _ p) (prop_ite (S.toTripped _ (S.quiet _ rfl rfl rfl p)) p)

theorem hazardLocks (p : P w) : P (hazardLock w) :=
  prop_ite (S.aborted _ p) (prop_ite (S.quiet _ rfl rfl rfl p)
    (S.toLocked _ _ (S.quiet _ rfl rfl rfl (prop_ite (S.same (cancelNeed_same _ _) p) p))))

theorem hazardReport (p : P w) : P (connHazardReport w) :=
  prop_ite (prop_ite (S.hazardLocks p) (prop_ite (S.orderly _ (S.unlock (S.quiet _ rfl rfl rfl p)))
    (S.leaveOpen (S.unlock (S.quiet _ rfl rfl rfl p))))) p

theorem duplicate (p : P w) : P (connDuplicate w) := by
  unfold connDuplicate
  split
  · split
    · exact S.toLocked _ _ p
    · exact S.toLocked _ _ p
    · exact S.toLocked _ _ (S.same (cancelNeed_same _ _) p)
    · exact S.quiet _ rfl rfl rfl p
    · exact S.aborted _ p
    · exact S.aborted _ p
    · exact S.toDisconnecting _ p
    · exact S.toDisconnecting _ p
    · exact p
  · exact p

theorem stopTested (p : P w) : P (stopTest w) := prop_ite (S.toDisconnecting _ p) p

theorem dispatchReport (p : P w) : P (connDispatchReport w) :=
  prop_ite (prop_ite (S.leaveOpen p) (prop_ite (S.stopTested p) (prop_ite (prop_ite (S.toDisconnecting _ p) p)
    (prop_ite (S.orderly _ p) p)))) p

theorem visibilityReport (p : P w) : P (connVisibilityReport w) := prop_ite (S.leaveOpen (S.quiet _ rfl rfl rfl p)) p
theorem visibilityTimer (p : P w) : P (visibilityExpires w) := prop_ite (S.orderly _ (S.quiet _ rfl rfl rfl p)) p

theorem fastTrip (d : Direction) (p : P w) : P (connFastTrip d w) := by
  have q : P (updateConn (fun c => c.setTrip d true) w) := S.quiet _ (by cases d <;> rfl) (by cases d <;> rfl) (by cases d <;> rfl) p
  exact prop_ite (prop_ite (S.withdrawn q) (S.immediate _ q)) p
theorem fastTripClear (d : Direction) (p : P w) : P (connFastTripClear d w) :=
  prop_ite (S.leaveOpen (S.quiet _ (by cases d <;> rfl) (by cases d <;> rfl) (by cases d <;> rfl) p)) p

theorem summaryReport (p : P w) : P (connSummary w) := by
  unfold connSummary
  split
  · split
    · exact S.leaveOpen (S.immediate _ p)
    · exact S.leaveOpen p
  · exact p

theorem retest (p : P w) : P (connRetest w) := prop_ite (S.leaveOpen p) p
theorem maintenance (p : P w) : P (connMaintenanceClear w) := prop_ite (S.unlock (S.quiet _ rfl rfl rfl p)) p

theorem link (p : P w) : P (linkLost w) :=
  prop_ite (S.withdrawn (S.quiet _ rfl rfl rfl p)) (S.immediate _ (S.quiet _ rfl rfl rfl p))
theorem miss (p : P w) : P (countMiss w) := prop_ite (prop_ite (S.link (S.quiet _ rfl rfl rfl p)) (S.quiet _ rfl rfl rfl p)) p
theorem period (p : P w) : P (connPeriod w) := prop_ite (S.stopTested (S.quiet _ rfl rfl rfl (S.miss p))) p
theorem rideThrough (p : P w) : P (enterRideThrough w) := prop_ite (S.toOpen _ (S.state _ _ _ p)) (S.state _ _ _ p)

theorem answer (a : ConverterAnswer) (p : P w) : P (useAnswer a w) := by
  unfold useAnswer
  split
  · exact p
  · exact p
  · exact p
  · exact prop_ite p (S.withdrawn p)
  · exact prop_ite (S.aborted _ p) (prop_ite (S.aborted _ p) (prop_ite (S.state _ _ _ p) p))
  · exact prop_ite (S.aborted _ p) (prop_ite (S.aborted _ p) (prop_ite (S.toConnected p) p))
  · exact prop_ite (S.immediate _ p) (prop_ite (S.rideThrough p) p)
  · exact prop_ite (S.immediate _ p) (prop_ite (S.state _ _ _ p) p)
  · exact prop_ite (S.immediate _ p) (prop_ite (S.disconnected p) p)

theorem takesAnswer (a : ConverterAnswer) (p : P w) : P (connAnswer a w) := prop_ite (S.answer a (S.quiet _ rfl rfl rfl p)) p
theorem gridDelay (p : P w) : P (gridDelayReached w) := prop_ite (S.leaveOpen (S.quiet _ rfl rfl rfl p)) p
theorem prechargeTimer (p : P w) : P (prechargeTimesOut w) := prop_ite (S.aborted _ p) p
theorem readyTimer (p : P w) : P (readyTimesOut w) := prop_ite (S.aborted _ p) p
theorem rideTimer (p : P w) : P (rideTimesOut w) := prop_ite (S.toOpen _ p) p
theorem disconnectTimer (p : P w) : P (disconnectTimesOut w) := prop_ite (S.disconnected p) p
theorem retryTimer (p : P w) : P (retryDelayEnds w) := prop_ite (S.toOpen _ (S.quiet _ rfl rfl rfl p)) p
theorem periodTimer (p : P w) : P (periodExpires w) := prop_ite (S.period (S.step p)) p

/-! ## Reports to limit and share -/

theorem thermalDerate (p : P w) : P (reportThermalDerate w) := prop_ite p (S.update (S.derate _ rfl rfl rfl p))
theorem hazardDerate (p : P w) : P (reportHazardDerate w) := prop_ite p (S.update (S.derate _ rfl rfl rfl p))
theorem visibilityFactor (p : P w) : P (reportVisibilityFactor w) := prop_ite p (S.update (S.derate _ rfl rfl rfl p))
theorem limitSummary (p : P w) : P (Machine.limitSummary w) := S.update (S.derate _ rfl rfl rfl p)

/-! ## The thermal unit -/

theorem derated (p : P w) : P (updateDerate w) := S.thermalDerate (S.same (updateThermal_same _ _) p)

theorem needGivenUp (p : P w) : P (giveUpNeed w) := by
  unfold giveUpNeed
  refine S.derated (S.same (updateThermal_same _ _) ?_)
  split
  · exact S.same (cancelNeed_same _ _) p
  · exact p

theorem needEnqueued (s : Stage) (p : P w) : P (enqueueNeed s w) :=
  S.same (placeNeed_same _ _) (S.derated (S.same (updateThermal_same _ _) p))
theorem stepHandled (s : Stage) (p : P w) : P (handleStep s w) :=
  prop_ite p (prop_ite (S.same (updateThermal_same _ _) p) (S.needEnqueued s p))

theorem wantHandled (s : Stage) (p : P w) : P (handleWant s w) := by
  unfold handleWant
  split
  · exact S.stepHandled s p
  · exact prop_ite p (S.stepHandled s (S.needGivenUp p))
  · exact prop_ite p (S.stepHandled s (S.needGivenUp p))
  · exact p

theorem thermalSummary (p : P w) : P (Machine.thermalSummary w) := by
  unfold Machine.thermalSummary
  split
  · split
    · exact S.wantHandled _ p
    · exact p
  · exact p

theorem retryExpires (p : P w) : P (Machine.retryExpires w) := by
  unfold Machine.retryExpires
  split
  · split
    · exact prop_ite (S.needEnqueued _ p) (S.stepHandled _ (S.needGivenUp p))
    · exact S.needGivenUp p
  · exact p

theorem pursuitGivenUp (p : P w) : P (giveUpPursuit w) :=
  prop_ite (S.derated (S.same (updateThermal_same _ _) (S.same (completeNeed_same _ _ _) p))) (S.needGivenUp p)
theorem thermalReport (p : P w) : P (thermalHazardReport w) :=
  prop_ite p (S.same (updateThermal_same _ _) (prop_ite (S.pursuitGivenUp p) p))

theorem thermalHeld (p : P w) : P (Machine.thermalHeld w) := by
  unfold Machine.thermalHeld
  split
  · have q := S.same (updateThermal_same (fun t => { t with lastAux := some (auxCheck w ‹_›) }) w) p
    refine prop_ite (prop_ite ?_ ?_) ?_
    · exact S.derated (S.same (updateThermal_same _ _) q)
    · exact S.same (completeNeed_same _ _ _) (S.derated (S.same (updateThermal_same _ _) q))
    · exact S.same (completeNeed_same _ _ _) (S.same (updateThermal_same _ _) q)
  · exact S.same (completeNeed_same _ _ _) p

theorem thermalCleared (p : P w) : P (Machine.thermalCleared w) := prop_ite p (S.derated (S.same (updateThermal_same _ _) p))
theorem startingCompleted (p : P w) : P (completeStarting w) :=
  prop_ite (S.same (completeNeed_same _ _ _) (S.same (updateThermal_same _ _) p)) p

theorem feedback (a : Bool) (p : P w) : P (feedbackChanges a w) := by
  have q := S.same (updateThermal_same (fun t => { t with feedback := a }) w) p
  exact prop_ite (prop_ite (prop_ite (S.startingCompleted (S.same (updateThermal_same _ _) q)) q)
    (prop_ite (S.same (updateThermal_same _ _) q) q)) q

theorem monitor (p : P w) : P (monitorExpires w) :=
  prop_ite (S.startingCompleted (S.derated (S.same (updateThermal_same _ _) p))) p
theorem tachWindow (p : P w) : P (tachWindowEnds w) := prop_ite (S.derated (S.same (updateThermal_same _ _) p)) p
theorem thermalMaintenance (p : P w) : P (thermalMaintenanceClear w) := by
  have q := S.same (updateThermal_same (fun t => { t.onDrives DriveState.clearFault with compressorFailed := false }) w) p
  have r : P (fallBackToCirculate _) := prop_ite (S.same (updateThermal_same _ _) (S.needGivenUp q)) q
  exact S.derated (prop_ite (S.same (updateThermal_same _ _) r) r)

/-! ## The end of a command -/

theorem notice (n : Notice) (p : P w) : P (takeNotice n w) := by
  unfold takeNotice
  split
  · exact prop_ite (S.thermalHeld p) (S.held p)
  · exact prop_ite (S.thermalCleared p) (S.cleared p)
  · exact prop_ite p (S.ended p)

theorem delivered (fuel : Nat) (p : P w) : P (deliver fuel w) := by
  induction fuel generalizing w with
  | zero => exact p
  | succ n ih =>
    unfold deliver
    split
    · exact p
    · exact ih (S.notice _ (S.same (setNotices_same _ _) p))

theorem finished (p : P w) : P (finish w) := S.same (refreshLamps_same _) (S.delivered _ p)

/-! ## The hazard unit, the scan unit and the rest -/

theorem levelReported (old : HazardLevel) (p : P w) : P (reportLevel old w) :=
  S.hazardReport (S.hazardDerate (S.same (balanceHazardReport_same _)
    (S.thermalReport (S.same (permitHazardReport_same _ _) p))))

theorem levelChanged (new : HazardLevel) (c : Cause) (p : P w) : P (changeLevel new c w) := by
  unfold changeLevel
  have q := S.same (updateHazard_any
    (fun h => h.changed new c (firstCauseOf w c) (w.loader.cfg.releaseTime * 1000) w.now) w) p
  exact S.levelReported _ (S.same (placeHazard_same _ _) (prop_ite (S.same (requestLockout_same _ _) q) q))

theorem rising (l : List Indication) (p : P w) : P (applyRising l w) := prop_ite (S.levelChanged _ _ p) p

theorem setChanged (l : List Indication) (p : P w) : P (changeSet l w) :=
  prop_ite p (S.rising _ (S.same (updateHazard_any _ _) (S.thermalReport (S.same (updateHazard_any _ _) p))))

theorem smoke (l : DetectorLoop) (p : P w) : P (smokeSettles l w) :=
  prop_ite (S.setChanged _ (S.same (updateHazard_any _ _) p)) p
theorem discharged (p : P w) : P (dischargedActive w) := prop_ite (S.levelChanged _ _ p) p

theorem hazardSummary (s : Summary) (p : P w) : P (Machine.hazardSummary s w) := by
  unfold Machine.hazardSummary
  split
  · exact S.setChanged _ p
  · exact p

theorem heat (p : P w) : P (heatSamples w) := prop_ite (S.setChanged _ (S.same (updateHazard_any _ _) p)) p

theorem evaluated (p : P w) : P (firstEvaluation w) := by
  have q := S.same (updateHazard_any (fun h => { h with firstEval := none, evaluated := true }) w) p
  exact prop_ite (prop_ite (prop_ite (S.levelChanged _ _ q) q)
    (prop_ite (S.discharged (S.rising _ q)) (S.rising _ q))) p

theorem escalated (p : P w) : P (escalates w) := prop_ite (S.levelChanged _ _ p) p
theorem fellBack (p : P w) : P (fallsBack w) := prop_ite (S.levelChanged _ _ p) p
theorem quietEnded (p : P w) : P (quietEnds w) := prop_ite (S.levelChanged _ _ p) p
theorem countdown (p : P w) : P (countdownEnds w) :=
  prop_ite (prop_ite (S.levelChanged _ _ (S.levelChanged _ _ p)) (S.levelChanged _ _ p)) p
theorem neighbours (p : P w) : P (reviewNeighbours w) := prop_ite p (S.hazardDerate (S.same (updateHazard_any _ _) p))

theorem hazardMaintenance (p : P w) : P (hazardMaintenanceClear w) :=
  prop_ite p (prop_ite (S.rising _ (S.same (requestLockout_same _ _) (S.same (updateHazard_any _ _) (S.levelChanged _ _ p))))
    (S.same (updateHazard_any _ _) p))

theorem writeEnded (a : Bool) (held : List Byte) (p : P w) : P (endWrite a held w) := by
  unfold endWrite
  split
  · exact prop_ite (S.retest (S.same updateHazard_same (S.frame (w := w) rfl rfl rfl p)))
      (S.same (writeFails_same _ _) (S.frame (w := w) rfl rfl rfl p))
  · exact p

theorem visibility (p : P w) : P (reviewVisibility w) :=
  prop_ite p (S.visibilityReport (S.same (chargeVisibility_same _) (S.visibilityFactor (S.same (updateScan_same _ _) p))))

theorem summaryRead (s : Summary) (p : P w) : P (readSummary s w) :=
  S.summaryReport (S.limitSummary (S.hazardSummary s (S.thermalSummary (S.same (balanceSummary_same _)
    (S.same (chargeSummary_same s _) p)))))

theorem published (p : P w) : P (publish w) := prop_ite (S.summaryRead _ (S.same (updateScan_same _ _) p)) p

theorem roundCompleted (p : P w) : P (completeRound w) := by
  unfold completeRound
  split
  · exact prop_ite (S.same (creditRound_same _ _) (S.same (retestSets_same _) (S.published (S.visibility
      (S.same (updateScan_same _ _) p))))) p
  · exact p

theorem reported (r : ModuleReport) (p : P w) : P (takeReport r w) :=
  prop_ite (S.roundCompleted (S.same (settleWindow_same _ _ _) (S.same (updateModule_same _ _ _) p))) p

theorem windowExpired (n : Nat) (p : P w) : P (expireWindow n w) := by
  have q := S.same (settleWindow_same (n - 1) .missed _) (S.same (updateModule_same (n - 1) ModuleRecord.miss w) p)
  exact prop_ite (S.roundCompleted (S.visibility (prop_ite (S.same (updateBalance_same _ _) q) q))) p

theorem scanMaintenance (p : P w) : P (scanMaintenanceClear w) := S.visibility (S.same (updateScan_same _ _) p)

theorem tripCompared (d : Direction) (i : Int) (p : P w) : P (compareTrip d i w) :=
  prop_ite (prop_ite (S.fastTrip d (S.same (updateAnalog_same _ _) p)) (S.fastTripClear d (S.same (updateAnalog_same _ _) p))) p

theorem levelTaken (l : DetectorLoop) (g : GasLevel) (ppm : Nat) (p : P w) : P (takeLevel l g ppm w) :=
  prop_ite p (S.setChanged _ (S.same (updateAnalog_same _ _) p))
theorem levelCompared (l : DetectorLoop) (g : GasLevel) (ppm : Nat) (p : P w) : P (compareLevel l g ppm w) :=
  prop_ite (S.levelTaken l g ppm p) p
theorem faultCompared (l : DetectorLoop) (i : Nat) (p : P w) : P (compareLoopFault l i w) :=
  prop_ite (prop_ite (S.setChanged _ (S.same (updateAnalog_same _ _) p))
    (S.levelTaken _ _ _ (S.levelTaken _ _ _ (S.setChanged _ (S.same (updateAnalog_same _ _) p))))) p

theorem dispatchTaken (n : Nat) (x : Int) (r : Nat) (m : DispatchMode) (p : P w) : P (takeDispatch n x r m w) := by
  have q := S.same (updatePeers_same (fun q => { q with dispatch := dispatchFrom n x r m }) _) (S.same (updateEntry_same n
    (fun e => { e with dispatch := some ⟨x, r, m, 0⟩ }) w) p)
  exact prop_ite (prop_ite q (S.dispatchReport q)) p
theorem staled (p : P w) : P (dispatchStales w) := prop_ite (S.dispatchReport (S.same (updatePeers_same _ _) p)) p
theorem learned (p : P w) : P (learningEnds w) :=
  prop_ite (S.retest (S.same (tryOpenAsk_same _) (S.same (updatePeers_same _ _) p))) p

theorem duplicateSet (p : P w) : P (setDuplicate w) :=
  prop_ite p (S.same (permitDuplicate_same _) (S.duplicate (S.same (emptyStores_same _) (S.same changeLine_any p))))

theorem routed (n : Nat) (m : Message) (p : P w) : P (route n m w) := by
  unfold route
  split
  · exact S.same (takePresent_same _ _ _ _) p
  · exact S.neighbours (S.same (updateEntry_same _ _ _) p)
  · exact S.neighbours (S.same (updateEntry_same _ _ _) p)
  · exact S.dispatchTaken _ _ _ _ p
  · exact prop_ite p (S.same (answerAsk_same _ _ _ _ _ _) p)
  · exact prop_ite p (S.same (takeGrant_same _ _ _) p)
  · exact prop_ite p (S.same (takeDefer_same _ _ _) p)
  · exact prop_ite p (S.same (takeRelease_same _ _ _) p)
  · exact prop_ite p (S.same (answerRead_same _ _ _ _ _) p)
  · exact p

theorem frameTested (f : Frame) (p : P w) : P (testFrame f w) := by
  unfold testFrame
  split
  · exact S.same (countError_same _) p
  · split
    · exact p
    · split
      · exact S.same (countError_same _) p
      · exact prop_ite (S.duplicateSet p) (prop_ite p (prop_ite p (prop_ite p (S.routed _ _ (S.same (heard_same _ _) p)))))

theorem frameCompleted (c : List Byte) (p : P w) : P (completeFrame c w) :=
  prop_ite (S.same (setReceiver_same _ _ _) p) (S.frameTested _ (S.same (setReceiver_same _ _ _) p))

theorem collected (b : List Byte) (p : P w) : P (collect b w) :=
  prop_ite (S.same (discard_same _) p) (prop_ite (S.frameCompleted b p) (S.same (setReceiver_same _ _ _) p))

theorem character (c : Byte) (p : P w) : P (characterArrives c w) := by
  have q := S.same (lineFreed_same w) p
  unfold characterArrives
  split
  · dsimp only
    split
    · exact prop_ite (S.collected _ q) (S.same (discard_same _) q)
    · exact S.collected _ q
    · exact q
  · exact p

theorem lastTaken (c : Byte) (p : P w) : P (lastCharacter c w) := prop_ite (S.frameCompleted _ (S.same (lineFreed_same _) p)) p

theorem allCleared (p : P w) : P (maintenanceClears w) :=
  S.maintenance (S.hazardMaintenance (S.thermalMaintenance (S.scanMaintenance p)))

theorem turned (p : P w) : P (keyTurned w) :=
  prop_ite (S.allCleared (S.same (updateKey_same _ _) p)) (S.same (updateKey_same _ _) p)

theorem contact (c : Contact) (p : P w) : P (contactSettles c w) := by
  unfold contactSettles
  split
  · exact prop_ite (S.setChanged _ (S.same (updateHazard_any _ _) p)) p
  · exact prop_ite (S.same (updateHazard_any _ _) p) p
  · exact prop_ite (S.same (updateHazard_any _ _) p) p
  · exact prop_ite (prop_ite (S.discharged (S.same (updateHazard_any _ _) p)) (S.same (updateHazard_any _ _) p)) p
  · exact prop_ite (S.turned p) p

theorem loaded (a : Bool) (p : P w) : P (loaderFinishes a w) := by
  unfold loaderFinishes
  split
  · refine prop_ite (S.levelChanged _ _ ?_) ?_ <;>
    · exact S.derate _ rfl rfl rfl (S.frame (w := w) rfl rfl rfl p)
  · exact p

end Stable

end Sys2Proof.Machine
end

