-- ==== Sys2Proof/Laws/Commands.lean ====
section
/-! SUPPORT. What a whole command does: it answers a next state; the parts it can change (`commandBlocks`); and the stable properties it
keeps. -/

set_option Elab.async false

namespace Sys2Proof.Machine

/-- What a command's effect changes, before the notices and the lamps; a reset changes every part (`none`). -/
def effectBlocks : Instr → Option (List Block)
  | .powerOn .. | .resetInput | .resetRelease .. => none
  | .loaderFinish .. => some startBlocks
  | .uptimeSecond => some [.uptime]
  | .scanRoundStart => some [.scan, .balance]
  | .moduleRequestSent => some [.scan]
  | .moduleReport .. | .answerWindowExpiry .. => some roundBlocks
  | .currentConversion .. => some [.analog, .charge, .balance]
  | .calibrationAtFull => some [.charge]
  | .gasLoopConversion .. | .temperatureConversion .. => some [.analog]
  | .fastTripComparator .. => some (.analog :: connBlocks)
  | .gasLevelComparator .. | .loopFaultComparator .. => some (.analog :: levelBlocks)
  | .balanceEvaluation => some [.balance]
  | .minimumOnTimerExpiry | .minimumOffTimerExpiry | .tachPulse .. | .pwmPeriodStart => some [.thermal]
  | .runFeedbackChange .. | .compressorStartMonitorExpiry | .retryTimerExpiry => some thermalBlocks
  | .tachWindowEnd => some [.thermal, .limit]
  | .smokeLoopBandChange .. => some [.hazard]
  | .smokeLoopPersistenceExpiry .. | .heatRiseSample | .hazardFirstEvaluation | .escalationTimerExpiry | .fallBackTimerExpiry
  | .quietTimerExpiry | .countdownEnd => some levelBlocks
  | .contactTerminalChange .. => some [.hazard, .key]
  | .contactInputSettled .. | .maintenanceClear => some (.key :: clearBlocks)
  | .dischargeConfirmationExpiry => some [.hazard, .latches]
  | .lockoutWriteStart => some [.request, .writing]
  | .lockoutWriteCompletion .. => some writeBlocks
  | .lockoutRetryExpiry => some [.request, .hazard]
  | .setpointPeriod | .converterAnswer .. | .gridHealthyDelayReached | .prechargeTimeout | .readyTimeout | .rideThroughExpired
  | .disconnectWaitExpiry | .visibilityTimerExpiry | .retryDelayExpiry => some connBlocks
  | .receiverIdleReached => some [.line, .peers]
  | .receiveFault .. | .deferral => some [.line]
  | .transmitStart | .collision => some [.line, .urgent]
  | .frameComplete .. | .characterTaken .. => some frameBlocks
  | .frameSent => some (.peers :: .urgent :: permitBlocks)
  | .errorWindowEnd | .askOneSecondCheck | .askThirtySecondCheck | .holdLimitExpiry | .backoffExpiry => some permitBlocks
  | .peerAgeingTick => some [.peers]
  | .stalenessTimerExpiry | .learningTimerExpiry => some (.peers :: connBlocks)
  | .listeningTimerExpiry | .statusTimerExpiry => some [.peers, .line]
  | .lampFlashTick .. => some [.lamps]

/-- A command changes no part but those of its effect, the clients' and the lamps. -/
theorem exec_same {c : Instr} {K : List Block} (hK : effectBlocks c = some K) {s t : State} (run : exec c s = .next t) :
    Same (K ++ finishBlocks) (Work.start s) (Work.start t) := by
  cases c <;> simp only [effectBlocks, Option.some.injEq, reduceCtorEq] at hK <;> subst hK
  case loaderFinish a => exact runCommand_same (loaderFinishes_same a _) run
  case uptimeSecond => exact runCommand_same (secondPasses_same _) run
  case scanRoundStart => exact runCommand_same (startRound_same _) run
  case moduleRequestSent => exact runCommand_same (requestSent_same _) run
  case moduleReport r => exact runCommand_same (takeReport_same r _) run
  case answerWindowExpiry n => exact runCommand_same (expireWindow_same n _) run
  case currentConversion i => exact runCommand_same (convertCurrent_same i _) run
  case calibrationAtFull => exact runCommand_same (calibrateFull_same _) run
  case gasLoopConversion a b => exact runCommand_same (convertGas_same a b _) run
  case temperatureConversion a b d => exact runCommand_same (convertTemperatures_same a b d _) run
  case fastTripComparator d i => exact runCommand_same (compareTrip_same d i _) run
  case gasLevelComparator l g p => exact runCommand_same (compareLevel_same l g p _) run
  case loopFaultComparator l i => exact runCommand_same (compareLoopFault_same l i _) run
  case balanceEvaluation => exact runCommand_same (evaluateBalance_same _) run
  case minimumOnTimerExpiry => exact runCommand_same (minOnExpires_same _) run
  case minimumOffTimerExpiry => exact runCommand_same (minOffExpires_same _) run
  case runFeedbackChange a => exact runCommand_same (feedbackChanges_same a _) run
  case compressorStartMonitorExpiry => exact runCommand_same (monitorExpires_same _) run
  case tachPulse d => exact runCommand_same (tachPulses_same d _) run
  case tachWindowEnd => exact runCommand_same (tachWindowEnds_same _) run
  case retryTimerExpiry => exact runCommand_same (retryExpires_same _) run
  case pwmPeriodStart => exact runCommand_same (pwmPeriodStarts_same _) run
  case smokeLoopBandChange l mv => exact runCommand_same (smokeBandMoves_same l mv _) run
  case smokeLoopPersistenceExpiry l => exact runCommand_same (smokeSettles_same l _) run
  case contactTerminalChange k a => exact runCommand_same (terminalChanges_same k a _) run
  case contactInputSettled k => exact runCommand_same (contactSettles_same k _) run
  case heatRiseSample => exact runCommand_same (heatSamples_same _) run
  case hazardFirstEvaluation => exact runCommand_same (firstEvaluation_same _) run
  case escalationTimerExpiry => exact runCommand_same (escalates_same _) run
  case fallBackTimerExpiry => exact runCommand_same (fallsBack_same _) run
  case quietTimerExpiry => exact runCommand_same (quietEnds_same _) run
  case countdownEnd => exact runCommand_same (countdownEnds_same _) run
  case dischargeConfirmationExpiry => exact runCommand_same (confirmationExpires_same _) run
  case lockoutWriteStart => exact runCommand_same (startWrite_same _) run
  case lockoutWriteCompletion a held => exact runCommand_same (endWrite_same a held _) run
  case lockoutRetryExpiry => exact runCommand_same (retryWrite_same _) run
  case maintenanceClear => exact runCommand_same (keyTurns_same _) run
  case setpointPeriod => exact runCommand_same (periodExpires_same _) run
  case converterAnswer a => exact runCommand_same (connAnswer_same a _) run
  case gridHealthyDelayReached => exact runCommand_same (gridDelayReached_same _) run
  case prechargeTimeout => exact runCommand_same (prechargeTimesOut_same _) run
  case readyTimeout => exact runCommand_same (readyTimesOut_same _) run
  case rideThroughExpired => exact runCommand_same (rideTimesOut_same _) run
  case disconnectWaitExpiry => exact runCommand_same (disconnectTimesOut_same _) run
  case visibilityTimerExpiry => exact runCommand_same (visibilityExpires_same _) run
  case retryDelayExpiry => exact runCommand_same (retryDelayEnds_same _) run
  case receiverIdleReached => exact runCommand_same (lineQuiet_same _) run
  case receiveFault f => exact runCommand_same (receiveFaults_same f _) run
  case frameComplete b => exact runCommand_same (lastCharacter_same b _) run
  case transmitStart => exact runCommand_same (transmits_same _) run
  case deferral => exact runCommand_same (defers_same _) run
  case collision => exact runCommand_same (collide_same _) run
  case frameSent => exact runCommand_same (frameIsSent_same _) run
  case errorWindowEnd => exact runCommand_same (windowEnds_same _) run
  case peerAgeingTick => exact runCommand_same (ageEntries_same _) run
  case stalenessTimerExpiry => exact runCommand_same (dispatchStales_same _) run
  case listeningTimerExpiry => exact runCommand_same (listeningEnds_same _) run
  case learningTimerExpiry => exact runCommand_same (learningEnds_same _) run
  case statusTimerExpiry => exact runCommand_same (statusDue_same _) run
  case askOneSecondCheck => exact runCommand_same (oneSecondCheck_same _) run
  case askThirtySecondCheck => exact runCommand_same (thirtySecondCheck_same _) run
  case holdLimitExpiry => exact runCommand_same (holdLimit_same _) run
  case backoffExpiry => exact runCommand_same (backoffEnds_same _) run
  case lampFlashTick l => exact runCommand_same (lampToggles_same l _) run
  case characterTaken b => exact runCommand_same (characterArrives_same b _) run

/-! ## A command run to its end -/

/-- The tests that commands make of the start hold where it has been made. -/
@[simp] theorem start_running {s : State} : (Work.start s).running = true ↔ s.Running := by
  unfold Work.running State.Running
  exact decide_eq_true_iff
@[simp] theorem start_configured {s : State} : (Work.start s).configured = true ↔ s.Configured := by
  unfold Work.configured State.Configured
  rw [Bool.and_eq_true, start_running, decide_eq_true_iff]
  exact Iff.rfl

/-- The lamps alone, and the counter of free values, follow at the end. -/
theorem refreshLamps_eq (w : Work) : ∃ l n, refreshLamps w = { w with lamps := l, freeCount := n } := by
  unfold refreshLamps
  split
  · exact ⟨w.lamps, w.freeCount, rfl⟩
  · exact ⟨_, _, rfl⟩

/-- A command whose effect gives no notice: the effect, and the lamps. -/
theorem runCommand_quiet {f : Work → Work} {s : State} (h : (f (Work.start s)).notices = []) :
    ∃ l n, runCommand f s = .next { (f (Work.start s)).toState with lamps := l, freeCount := n } := by
  obtain ⟨l, n, e⟩ := refreshLamps_eq (f (Work.start s))
  refine ⟨l, n, ?_⟩
  unfold runCommand
  rw [finish_of_no_notices h, e]

/-- A command whose effect is `w`, without a notice: it completes there, and the lamps follow. -/
theorem runCommand_of_eq {f : Work → Work} {s : State} {w : Work} (h : f (Work.start s) = w) (quiet : w.notices = []) :
    ∃ l n, runCommand f s = .next { w.toState with lamps := l, freeCount := n } := by
  subst h
  exact runCommand_quiet quiet

/-! ## Stable properties and whole commands -/

/-- A command run to its end keeps a stable property that its effect keeps. -/
theorem Stable.run {P : Work → Prop} (S : Stable P) {f : Work → Work} {s t : State} (keeps : P (f (Work.start s)))
    (run : runCommand f s = .next t) : P (Work.start t) := by
  have ht : t = (finish (f (Work.start s))).toState := by
    unfold runCommand at run
    exact (Host.Outcome.next.inj run).symm
  subst ht
  exact S.frame (w := finish (f (Work.start s))) rfl rfl rfl (S.finished keeps)

/-- The commands that move the uptime: the resets, their release, and the second (R192). -/
def movesUptime : Instr → Bool
  | .powerOn .. | .resetInput | .resetRelease .. | .uptimeSecond => true
  | _ => false

/-- Every command between the resets and the seconds keeps every stable property. -/
theorem Stable.exec_between {P : Work → Prop} (S : Stable P) {c : Instr} {s t : State} (hc : movesUptime c = false)
    (p : P (Work.start s)) (run : Machine.exec c s = .next t) : P (Work.start t) := by
  cases c
  case powerOn k => cases hc
  case resetInput => cases hc
  case resetRelease k => cases hc
  case uptimeSecond => cases hc
  case loaderFinish a => exact S.run (S.loaded a p) run
  case scanRoundStart => exact S.run (S.same (startRound_same _) p) run
  case moduleRequestSent => exact S.run (S.same (requestSent_same _) p) run
  case moduleReport r => exact S.run (S.reported r p) run
  case answerWindowExpiry n => exact S.run (S.windowExpired n p) run
  case currentConversion i => exact S.run (S.same (convertCurrent_same i _) p) run
  case calibrationAtFull => exact S.run (S.same (calibrateFull_same _) p) run
  case gasLoopConversion a b => exact S.run (S.same (convertGas_same a b _) p) run
  case temperatureConversion a b d => exact S.run (S.same (convertTemperatures_same a b d _) p) run
  case fastTripComparator d i => exact S.run (S.tripCompared d i p) run
  case gasLevelComparator l g n => exact S.run (S.levelCompared l g n p) run
  case loopFaultComparator l i => exact S.run (S.faultCompared l i p) run
  case balanceEvaluation => exact S.run (S.same (evaluateBalance_same _) p) run
  case minimumOnTimerExpiry => exact S.run (S.same (minOnExpires_same _) p) run
  case minimumOffTimerExpiry => exact S.run (S.same (minOffExpires_same _) p) run
  case runFeedbackChange a => exact S.run (S.feedback a p) run
  case compressorStartMonitorExpiry => exact S.run (S.monitor p) run
  case tachPulse d => exact S.run (S.same (tachPulses_same d _) p) run
  case tachWindowEnd => exact S.run (S.tachWindow p) run
  case retryTimerExpiry => exact S.run (S.retryExpires p) run
  case pwmPeriodStart => exact S.run (S.same (pwmPeriodStarts_same _) p) run
  case smokeLoopBandChange l mv => exact S.run (S.same (smokeBandMoves_same l mv _) p) run
  case smokeLoopPersistenceExpiry l => exact S.run (S.smoke l p) run
  case contactTerminalChange k a => exact S.run (S.same (terminalChanges_same k a _) p) run
  case contactInputSettled k => exact S.run (S.contact k p) run
  case heatRiseSample => exact S.run (S.heat p) run
  case hazardFirstEvaluation => exact S.run (S.evaluated p) run
  case escalationTimerExpiry => exact S.run (S.escalated p) run
  case fallBackTimerExpiry => exact S.run (S.fellBack p) run
  case quietTimerExpiry => exact S.run (S.quietEnded p) run
  case countdownEnd => exact S.run (S.countdown p) run
  case dischargeConfirmationExpiry => exact S.run (S.same (confirmationExpires_same _) p) run
  case lockoutWriteStart => exact S.run (S.same (startWrite_same _) p) run
  case lockoutWriteCompletion a held => exact S.run (S.writeEnded a held p) run
  case lockoutRetryExpiry => exact S.run (S.same (retryWrite_same _) p) run
  case maintenanceClear => exact S.run (f := keyTurns) (prop_ite (S.turned p) p) run
  case setpointPeriod => exact S.run (S.periodTimer p) run
  case converterAnswer a => exact S.run (S.takesAnswer a p) run
  case gridHealthyDelayReached => exact S.run (S.gridDelay p) run
  case prechargeTimeout => exact S.run (S.prechargeTimer p) run
  case readyTimeout => exact S.run (S.readyTimer p) run
  case rideThroughExpired => exact S.run (S.rideTimer p) run
  case disconnectWaitExpiry => exact S.run (S.disconnectTimer p) run
  case visibilityTimerExpiry => exact S.run (S.visibilityTimer p) run
  case retryDelayExpiry => exact S.run (S.retryTimer p) run
  case receiverIdleReached => exact S.run (S.same (lineQuiet_same _) p) run
  case receiveFault f => exact S.run (S.same (receiveFaults_same f _) p) run
  case frameComplete b => exact S.run (S.lastTaken b p) run
  case transmitStart => exact S.run (S.same (transmits_same _) p) run
  case deferral => exact S.run (S.same (defers_same _) p) run
  case collision => exact S.run (S.same (collide_same _) p) run
  case frameSent => exact S.run (S.same (frameIsSent_same _) p) run
  case errorWindowEnd => exact S.run (S.same (windowEnds_same _) p) run
  case peerAgeingTick => exact S.run (S.same (ageEntries_same _) p) run
  case stalenessTimerExpiry => exact S.run (S.staled p) run
  case listeningTimerExpiry => exact S.run (S.same (listeningEnds_same _) p) run
  case learningTimerExpiry => exact S.run (S.learned p) run
  case statusTimerExpiry => exact S.run (S.same (statusDue_same _) p) run
  case askOneSecondCheck => exact S.run (S.same (oneSecondCheck_same _) p) run
  case askThirtySecondCheck => exact S.run (S.same (thirtySecondCheck_same _) p) run
  case holdLimitExpiry => exact S.run (S.same (holdLimit_same _) p) run
  case backoffExpiry => exact S.run (S.same (backoffEnds_same _) p) run
  case lampFlashTick l => exact S.run (S.same (lampToggles_same l _) p) run
  case characterTaken b => exact S.run (S.character b p) run

/-- Every command keeps a stable property of the connection unit and of limit and share alone that holds at the reset values. -/
theorem Stable.exec {P : Work → Prop} (S : Stable P)
    (fresh : ∀ w : Work, w.conn = { ConnState.reset with switching := w.conn.switching } → w.limit = .reset → P w)
    (clock : ∀ {w w' : Work}, w'.conn = w.conn → w'.limit = w.limit → P w → P w')
    {c : Instr} {s t : State} (p : P (Work.start s)) (run : Machine.exec c s = .next t) : P (Work.start t) := by
  by_cases hc : movesUptime c = false
  · exact S.exec_between hc p run
  · cases c <;> first | exact absurd rfl hc | skip
    case powerOn k => exact S.run (fresh _ rfl rfl) run
    case resetInput => exact S.run (fresh _ rfl rfl) run
    case resetRelease k => exact S.run (f := resetReleased k.toNat) (prop_ite p (clock (w := Work.start s) rfl rfl p)) run
    case uptimeSecond =>
      have h := secondPasses_same (Work.start s)
      exact S.run (f := secondPasses) (clock (h .conn (by decide)).1 (h .limit (by decide)) p) run

end Sys2Proof.Machine
end

