-- ==== Sys2Proof/Laws/Memory.lean ====
section
/-! SUPPORT. The laws of the configuration memory: every write keeps the canonical form, a byte written reads back, and every other byte
reads as before. -/

set_option Elab.async false

namespace Sys2Proof.Machine

theorem Memory.wf_nil : Memory.wf [] := ⟨List.Pairwise.nil, by simp⟩

/-- An address that stands in a memory after a write stood in it before, or is the one written. -/
theorem Memory.mem_write {m : Memory} {a : Nat} {v : Byte} {c : Host.Cell} (h : c ∈ Memory.write m a v) :
    c ∈ m ∨ (c = (a, v) ∧ v ≠ blankByte) := by
  induction m with
  | nil =>
    unfold Memory.write at h
    split at h
    · simp at h
    · exact .inr ⟨by simpa using h, ‹_›⟩
  | cons x rest ih =>
    obtain ⟨y, b⟩ := x
    unfold Memory.write at h
    split at h
    · split at h
      · exact .inl h
      · rcases List.mem_cons.mp h with rfl | h
        · exact .inr ⟨rfl, ‹_›⟩
        · exact .inl h
    · split at h
      · split at h
        · exact .inl (List.mem_cons_of_mem _ h)
        · rcases List.mem_cons.mp h with rfl | h
          · exact .inr ⟨rfl, ‹_›⟩
          · exact .inl (List.mem_cons_of_mem _ h)
      · rcases List.mem_cons.mp h with rfl | h
        · exact .inl List.mem_cons_self
        · rcases ih h with h | h
          · exact .inl (List.mem_cons_of_mem _ h)
          · exact .inr h

/-- A write inside the memory keeps the canonical form. -/
theorem Memory.write_wf {m : Memory} (h : Memory.wf m) {a : Nat} (ha : a < memorySize) (v : Byte) :
    Memory.wf (Memory.write m a v) := by
  refine ⟨?_, ?_⟩
  · have hs := h.1
    clear h
    induction m with
    | nil => unfold Memory.write; split <;> simp
    | cons x rest ih =>
      obtain ⟨y, b⟩ := x
      obtain ⟨hlt, hr⟩ := List.pairwise_cons.mp hs
      unfold Memory.write
      split
      · split
        · exact hs
        · refine List.pairwise_cons.mpr ⟨?_, hs⟩
          intro c hc
          rcases List.mem_cons.mp hc with rfl | hc
          · assumption
          · have := hlt c hc
            have h1 : a < y := by assumption
            exact Nat.lt_trans h1 this
      · split
        · subst_vars
          split
          · exact hr
          · exact List.pairwise_cons.mpr ⟨hlt, hr⟩
        · refine List.pairwise_cons.mpr ⟨?_, ih hr⟩
          intro c hc
          rcases Memory.mem_write hc with hc | ⟨rfl, -⟩
          · exact hlt c hc
          · show y < a
            omega
  · intro c hc
    rcases Memory.mem_write hc with hc | ⟨rfl, hv⟩
    · exact h.2 c hc
    · exact ⟨ha, hv⟩

theorem Memory.writeBytes_wf {bytes : List Byte} {m : Memory} (h : Memory.wf m) {a : Nat} (ha : a + bytes.length ≤ memorySize) :
    Memory.wf (Memory.writeBytes m a bytes) := by
  induction bytes generalizing m a with
  | nil => exact h
  | cons b bs ih =>
    rw [List.length_cons] at ha
    exact ih (Memory.write_wf h (by omega) b) (by omega)

/-- Below the first address of a rising list every byte is blank. -/
theorem Memory.read_below {m : Memory} {a : Nat} (h : ∀ c ∈ m, a < c.1) : Memory.read m a = blankByte := by
  induction m with
  | nil => rfl
  | cons x rest ih =>
    obtain ⟨y, b⟩ := x
    have hy : a < y := h (y, b) List.mem_cons_self
    unfold Memory.read
    rw [if_neg (by omega)]
    exact ih fun c hc => h c (List.mem_cons_of_mem _ hc)

/-- A byte written reads back. -/
theorem Memory.read_write_same {m : Memory} (h : m.Pairwise (fun x y => x.1 < y.1)) (a : Nat) (v : Byte) :
    Memory.read (Memory.write m a v) a = v := by
  induction m with
  | nil =>
    unfold Memory.write
    split
    · subst_vars; rfl
    · simp [Memory.read]
  | cons x rest ih =>
    obtain ⟨y, b⟩ := x
    obtain ⟨hlt, hr⟩ := List.pairwise_cons.mp h
    unfold Memory.write
    split
    · rename_i hay
      split
      · subst_vars
        refine Memory.read_below ?_
        intro c hc
        rcases List.mem_cons.mp hc with rfl | hc
        · exact hay
        · exact Nat.lt_trans hay (hlt c hc)
      · simp [Memory.read]
    · split
      · subst_vars
        split
        · subst_vars
          exact Memory.read_below fun c hc => hlt c hc
        · simp [Memory.read]
      · unfold Memory.read
        rw [if_neg (by omega)]
        exact ih hr

/-- A write leaves every other byte. -/
theorem Memory.read_write_other {m : Memory} (h : m.Pairwise (fun x y => x.1 < y.1)) {a x : Nat} (hx : x ≠ a) (v : Byte) :
    Memory.read (Memory.write m a v) x = Memory.read m x := by
  induction m with
  | nil =>
    unfold Memory.write
    split
    · rfl
    · simp [Memory.read]; omega
  | cons y rest ih =>
    obtain ⟨y, b⟩ := y
    obtain ⟨hlt, hr⟩ := List.pairwise_cons.mp h
    unfold Memory.write
    split
    · split
      · rfl
      · conv_lhs => unfold Memory.read
        rw [if_neg (by omega)]
    · split
      · subst_vars
        split
        · conv_rhs => unfold Memory.read
          rw [if_neg (by omega)]
        · conv_lhs => unfold Memory.read
          conv_rhs => unfold Memory.read
          rw [if_neg (by omega), if_neg (by omega)]
      · conv_lhs => unfold Memory.read
        conv_rhs => unfold Memory.read
        split
        · rfl
        · exact ih hr

/-- Rising addresses survive a write anywhere. -/
theorem Memory.write_rising {m : Memory} (h : m.Pairwise (fun x y => x.1 < y.1)) (a : Nat) (v : Byte) :
    (Memory.write m a v).Pairwise (fun x y => x.1 < y.1) := by
  induction m with
  | nil => unfold Memory.write; split <;> simp
  | cons x rest ih =>
    obtain ⟨y, b⟩ := x
    obtain ⟨hlt, hr⟩ := List.pairwise_cons.mp h
    unfold Memory.write
    split
    · split
      · exact h
      · refine List.pairwise_cons.mpr ⟨?_, h⟩
        intro c hc
        rcases List.mem_cons.mp hc with rfl | hc
        · assumption
        · exact Nat.lt_trans (by assumption) (hlt c hc)
    · split
      · subst_vars
        split
        · exact hr
        · exact List.pairwise_cons.mpr ⟨hlt, hr⟩
      · refine List.pairwise_cons.mpr ⟨?_, ih hr⟩
        intro c hc
        rcases Memory.mem_write hc with hc | ⟨rfl, -⟩
        · exact hlt c hc
        · show y < a
          omega

/-- Bytes outside the written area read as before. -/
theorem Memory.read_writeBytes_other {bytes : List Byte} {m : Memory} (h : m.Pairwise (fun x y => x.1 < y.1)) {a x : Nat}
    (hx : x < a ∨ a + bytes.length ≤ x) : Memory.read (Memory.writeBytes m a bytes) x = Memory.read m x := by
  induction bytes generalizing m a with
  | nil => rfl
  | cons b bs ih =>
    rw [List.length_cons] at hx
    unfold Memory.writeBytes
    rw [ih (Memory.write_rising h a b) (by omega), Memory.read_write_other h (by omega)]

/-- Bytes inside the written area read as written. -/
theorem Memory.read_writeBytes_same {bytes : List Byte} {m : Memory} (h : m.Pairwise (fun x y => x.1 < y.1)) {a i : Nat}
    (hi : i < bytes.length) : Memory.read (Memory.writeBytes m a bytes) (a + i) = bytes[i] := by
  induction bytes generalizing m a i with
  | nil => simp at hi
  | cons b bs ih =>
    unfold Memory.writeBytes
    cases i with
    | zero =>
      rw [Memory.read_writeBytes_other (Memory.write_rising h a b) (by omega), Nat.add_zero, Memory.read_write_same h]
      rfl
    | succ i =>
      have := ih (Memory.write_rising h a b) (a := a + 1) (i := i) (by simpa using hi)
      rw [show a + (i + 1) = a + 1 + i by omega, this]
      rfl

/-- An area just written reads back whole. -/
theorem Memory.readBytes_writeBytes {m : Memory} (h : m.Pairwise (fun x y => x.1 < y.1)) (a : Nat) (bytes : List Byte) :
    Memory.readBytes (Memory.writeBytes m a bytes) a bytes.length = bytes := by
  apply List.ext_getElem
  · simp [Memory.readBytes]
  · intro i h₁ h₂
    simp only [Memory.readBytes, List.getElem_map, List.getElem_range]
    exact Memory.read_writeBytes_same h h₂

/-- An area that does not meet the written one reads as before. -/
theorem Memory.readBytes_writeBytes_other {bytes : List Byte} {m : Memory} (h : m.Pairwise (fun x y => x.1 < y.1)) {a b n : Nat}
    (hx : b + n ≤ a ∨ a + bytes.length ≤ b) : Memory.readBytes (Memory.writeBytes m a bytes) b n = Memory.readBytes m b n := by
  apply List.map_congr_left
  intro i hi
  have := List.mem_range.mp hi
  exact Memory.read_writeBytes_other h (by omega)

end Sys2Proof.Machine
end

