-- ==== Sys2Proof/Laws/Level.lean ====
section
/-! SUPPORT. What the hazard unit's shared operations do to the hazard unit itself: a change of level and a change of the indication set,
said once. -/

set_option Elab.async false

namespace Sys2Proof.Machine

/-- A requested lockout write drops a running retry (R84). -/
def HazardState.dropRetry (h : HazardState) : HazardState := { h with retry := none, retryContent := none }

/-- The hazard unit after a change of level. -/
theorem changeLevel_hazard (new : HazardLevel) (c : Cause) (w : Work) :
    (changeLevel new c w).hazard =
      (let h := w.hazard.changed new c (firstCauseOf w c) (w.loader.cfg.releaseTime * 1000) w.now
       if new.writesLockout then h.dropRetry else h) := by
  unfold changeLevel
  dsimp only
  rw [(reportLevel_same _ _) .hazard (by decide), (placeHazard_same _ _) .hazard (by decide)]
  split <;> rfl

@[simp] theorem changeLevel_level (new : HazardLevel) (c : Cause) (w : Work) : (changeLevel new c w).hazard.level = new := by
  rw [changeLevel_hazard]
  dsimp only
  split <;> rfl

@[simp] theorem changeLevel_set (new : HazardLevel) (c : Cause) (w : Work) :
    (changeLevel new c w).hazard.set = w.hazard.set := by
  rw [changeLevel_hazard]
  dsimp only
  split <;> rfl

@[simp] theorem changeLevel_release (new : HazardLevel) (c : Cause) (w : Work) :
    (changeLevel new c w).hazard.release = decide (new = .releasing) := by
  rw [changeLevel_hazard]
  dsimp only
  split <;> rfl

@[simp] theorem changeLevel_evaluated (new : HazardLevel) (c : Cause) (w : Work) :
    (changeLevel new c w).hazard.evaluated = w.hazard.evaluated := by
  rw [changeLevel_hazard]
  dsimp only
  split <;> rfl

@[simp] theorem preTimers_release (h : HazardState) : h.preTimers.release = h.release := by
  unfold HazardState.preTimers
  split
  · split <;> rfl
  · rfl
@[simp] theorem preTimers_set (h : HazardState) : h.preTimers.set = h.set := by
  unfold HazardState.preTimers
  split
  · split <;> rfl
  · rfl
@[simp] theorem preTimers_evaluated (h : HazardState) : h.preTimers.evaluated = h.evaluated := by
  unfold HazardState.preTimers
  split
  · split <;> rfl
  · rfl
@[simp] theorem quietTimer_release (h : HazardState) : h.quietTimer.release = h.release := by
  unfold HazardState.quietTimer; split <;> rfl
@[simp] theorem quietTimer_set (h : HazardState) : h.quietTimer.set = h.set := by
  unfold HazardState.quietTimer; split <;> rfl
@[simp] theorem quietTimer_evaluated (h : HazardState) : h.quietTimer.evaluated = h.evaluated := by
  unfold HazardState.quietTimer; split <;> rfl

/-- The level that the rising transitions give (R72): the highest whose condition holds, where it is above the present one, and only
after the first evaluation and below ALARM. -/
def raisedLevel (h : HazardState) (set : List Indication) : HazardLevel :=
  if h.evaluated && !h.level.isAlarm && decide (h.level.code < (risingLevel set).code) then risingLevel set else h.level

theorem applyRising_level (l : List Indication) (w : Work) :
    (applyRising l w).hazard.level = raisedLevel w.hazard w.hazard.set := by
  unfold applyRising raisedLevel
  dsimp only
  split
  · exact changeLevel_level _ _ _
  · rfl

theorem applyRising_set (l : List Indication) (w : Work) : (applyRising l w).hazard.set = w.hazard.set := by
  unfold applyRising
  dsimp only
  split
  · exact changeLevel_set _ _ _
  · rfl

theorem thermalHazardReport_hazard (w : Work) : (thermalHazardReport w).hazard = w.hazard :=
  (thermalHazardReport_same w) .hazard (by decide)

/-- The set after a change of it is the new one (R70). -/
theorem changeSet_set (l : List Indication) (w : Work) : (changeSet l w).hazard.set = l := by
  unfold changeSet
  split
  · exact Eq.symm (by assumption)
  · dsimp only
    rw [applyRising_set]
    simp [thermalHazardReport_hazard]

/-- The level after a change of the set (R72); a set that does not change moves nothing. -/
theorem changeSet_level (l : List Indication) (w : Work) :
    (changeSet l w).hazard.level = if l = w.hazard.set then w.hazard.level else raisedLevel w.hazard l := by
  unfold changeSet
  split
  · rfl
  · dsimp only
    rw [applyRising_level]
    simp [raisedLevel, thermalHazardReport_hazard, HazardState.quietTimer_level, HazardState.preTimers_level]

theorem finish_hazard (w : Work) : (finish w).hazard = w.hazard := (finish_same w) .hazard (by decide)

/-- The hazard unit after a command: no notice and no lamp reaches it. -/
theorem runCommand_hazard {f : Work → Work} {s t : State} (run : runCommand f s = .next t) :
    t.hazard = (f (Work.start s)).hazard := by
  have ht : t = (finish (f (Work.start s))).toState := by
    unfold runCommand at run
    exact (Host.Outcome.next.inj run).symm
  subst ht
  exact finish_hazard _

/-! ## Properties of the hazard unit that every operation keeps -/

/-- A property of the hazard unit that survives a change of level and every change that leaves level and RELEASE as they are. -/
structure HazardStable (Q : HazardState → Prop) : Prop where
  level : ∀ (h : HazardState) (new : HazardLevel) (c : Cause) (r : FirstCause) (ms now : Nat), Q (h.changed new c r ms now)
  quiet : ∀ {h h' : HazardState}, h'.level = h.level → h'.release = h.release → Q h → Q h'

namespace HazardStable

variable {Q : HazardState → Prop} (S : HazardStable Q) {w w' : Work}
include S

omit S in
theorem same {K : List Block} (h : Same K w w') (q : Q w.hazard) (hk : Block.hazard ∉ K := by decide) : Q w'.hazard := by
  rw [h .hazard hk]; exact q

theorem changed (new : HazardLevel) (c : Cause) : Q (changeLevel new c w).hazard := by
  rw [changeLevel_hazard]
  dsimp only
  split
  · exact S.quiet (h := w.hazard.changed new c (firstCauseOf w c) (w.loader.cfg.releaseTime * 1000) w.now) rfl rfl
      (S.level _ _ _ _ _ _)
  · exact S.level _ _ _ _ _ _

theorem rising (l : List Indication) (q : Q w.hazard) : Q (applyRising l w).hazard := by
  unfold applyRising
  dsimp only
  split
  · exact S.changed _ _
  · exact q

theorem set (l : List Indication) (q : Q w.hazard) : Q (changeSet l w).hazard := by
  unfold changeSet
  split
  · exact q
  · refine S.rising _ (S.quiet (h := w.hazard) ?_ ?_ q)
    · simp [thermalHazardReport_hazard, HazardState.quietTimer_level, HazardState.preTimers_level]
    · simp [thermalHazardReport_hazard]

theorem ownSummary (x : Summary) (q : Q w.hazard) : Q (hazardSummary x w).hazard := by
  unfold hazardSummary
  split
  · exact S.set _ q
  · exact q

theorem summaryRead (x : Summary) (q : Q w.hazard) : Q (readSummary x w).hazard := by
  have q₁ : Q (chargeSummary x w).hazard := HazardStable.same (chargeSummary_same x w) q
  have q₂ : Q (balanceSummary (chargeSummary x w)).hazard := HazardStable.same (balanceSummary_same _) q₁
  have q₃ : Q (thermalSummary (balanceSummary (chargeSummary x w))).hazard := HazardStable.same (thermalSummary_same _) q₂
  have q₄ := S.ownSummary x q₃
  have q₅ : Q (limitSummary (hazardSummary x (thermalSummary (balanceSummary (chargeSummary x w))))).hazard :=
    HazardStable.same (limitSummary_same _) q₄
  exact HazardStable.same (connSummary_same _) q₅

theorem published (q : Q w.hazard) : Q (publish w).hazard := by
  unfold publish
  split
  · exact S.summaryRead _ (HazardStable.same (updateScan_same _ w) q)
  · exact q

theorem round (q : Q w.hazard) : Q (completeRound w).hazard := by
  unfold completeRound
  split
  · split
    · refine HazardStable.same (creditRound_same _ _) (HazardStable.same (retestSets_same _) (S.published (HazardStable.same (reviewVisibility_same _) ?_)))
      exact HazardStable.same (updateScan_same _ w) q
    · exact q
  · exact q

theorem maintenance (q : Q w.hazard) : Q (hazardMaintenanceClear w).hazard := by
  unfold hazardMaintenanceClear
  split
  · exact q
  · split
    · have q₁ := S.changed (w := w) .clear .maintClear
      dsimp only
      generalize changeLevel .clear .maintClear w = x at q₁
      exact S.rising _ (S.quiet (h := x.hazard) rfl rfl q₁)
    · exact S.quiet (h := w.hazard) rfl rfl q

theorem turned (q : Q w.hazard) : Q (keyTurned w).hazard := by
  have q₁ : Q (updateKey ContactInput.settle w).hazard := HazardStable.same (updateKey_same _ w) q
  have q₂ : Q (scanMaintenanceClear (updateKey ContactInput.settle w)).hazard := HazardStable.same (scanMaintenanceClear_same _) q₁
  have q₃ : Q (thermalMaintenanceClear (scanMaintenanceClear (updateKey ContactInput.settle w))).hazard :=
    HazardStable.same (thermalMaintenanceClear_same _) q₂
  unfold keyTurned
  dsimp only
  split
  · exact HazardStable.same (connMaintenanceClear_same _) (S.maintenance q₃)
  · exact q₁

theorem contact (c : Contact) (q : Q w.hazard) : Q (contactSettles c w).hazard := by
  unfold contactSettles
  split
  · unfold callPointSettles
    split
    · exact S.set _ (S.quiet (h := w.hazard) rfl rfl q)
    · exact q
  · unfold doorSettles
    split
    · exact S.quiet (h := w.hazard) rfl rfl q
    · exact q
  · unfold holdSettles
    split
    · exact S.quiet (h := w.hazard) rfl rfl q
    · exact q
  · unfold dischargedSettles
    split
    · dsimp only
      split
      · unfold dischargedActive
        split
        · exact S.changed _ _
        · exact S.quiet (h := w.hazard) rfl rfl q
      · exact S.quiet (h := w.hazard) rfl rfl q
    · exact q
  · unfold keySettles
    split
    · exact S.turned q
    · exact q

theorem smoke (l : DetectorLoop) (q : Q w.hazard) : Q (smokeSettles l w).hazard := by
  unfold smokeSettles
  split
  · exact S.set _ (S.quiet (h := w.hazard) (by cases l <;> rfl) (by cases l <;> rfl) q)
  · exact q

theorem heat (q : Q w.hazard) : Q (heatSamples w).hazard := by
  unfold heatSamples
  split
  · exact S.set _ (S.quiet (h := w.hazard) rfl rfl q)
  · exact q

theorem evaluated (q : Q w.hazard) : Q (firstEvaluation w).hazard := by
  unfold firstEvaluation
  split
  · have q₁ : Q (updateHazard (fun h => { h with firstEval := none, evaluated := true }) w).hazard :=
      S.quiet (h := w.hazard) rfl rfl q
    dsimp only
    split
    · split
      · exact S.changed _ _
      · exact q₁
    · split
      · unfold dischargedActive
        split
        · exact S.changed _ _
        · exact S.rising _ q₁
      · exact S.rising _ q₁
  · exact q

theorem neighbours (q : Q w.hazard) : Q (reviewNeighbours w).hazard := by
  unfold reviewNeighbours
  dsimp only
  split
  · exact q
  · exact HazardStable.same (reportHazardDerate_same _) (S.quiet (h := w.hazard) rfl rfl q)

theorem levelTaken (l : DetectorLoop) (g : GasLevel) (ppm : Nat) (q : Q w.hazard) : Q (takeLevel l g ppm w).hazard := by
  unfold takeLevel
  dsimp only
  split
  · exact q
  · exact S.set _ (HazardStable.same (updateAnalog_same _ w) q)

theorem faultCompared (l : DetectorLoop) (i : Nat) (q : Q w.hazard) : Q (compareLoopFault l i w).hazard := by
  unfold compareLoopFault
  dsimp only
  split
  · split
    · exact S.set _ (HazardStable.same (updateAnalog_same _ w) q)
    · exact S.levelTaken _ _ _ (S.levelTaken _ _ _ (S.set _ (HazardStable.same (updateAnalog_same _ w) q)))
  · exact q

theorem writeEnded (a : Bool) (held : List Byte) (q : Q w.hazard) : Q (endWrite a held w).hazard := by
  unfold endWrite
  split
  · dsimp only
    split
    · exact HazardStable.same (connRetest_same _) (S.quiet (h := w.hazard) rfl rfl q)
    · unfold writeFails
      refine S.quiet (h := w.hazard) ?_ ?_ q <;> simp only [updateHazard_hazard] <;> split <;> rfl
  · exact q

theorem routed (n : Nat) (m : Message) (q : Q w.hazard) : Q (route n m w).hazard := by
  unfold route
  split
  · exact HazardStable.same (takePresent_same _ _ _ w) q
  · exact S.neighbours (HazardStable.same (updateEntry_same _ _ w) q)
  · exact S.neighbours (HazardStable.same (updateEntry_same _ _ w) q)
  · exact HazardStable.same (takeDispatch_same _ _ _ _ w) q
  · exact prop_ite (P := fun w => Q w.hazard) q (HazardStable.same (answerAsk_same _ _ _ _ _ w) q)
  · exact prop_ite (P := fun w => Q w.hazard) q (HazardStable.same (takeGrant_same _ _ w) q)
  · exact prop_ite (P := fun w => Q w.hazard) q (HazardStable.same (takeDefer_same _ _ w) q)
  · exact prop_ite (P := fun w => Q w.hazard) q (HazardStable.same (takeRelease_same _ _ w) q)
  · exact prop_ite (P := fun w => Q w.hazard) q (HazardStable.same (answerRead_same _ _ _ _ w) q)
  · exact q

theorem frameTested (f : Frame) (q : Q w.hazard) : Q (testFrame f w).hazard := by
  unfold testFrame
  split
  · exact HazardStable.same (countError_same w) q
  · split
    · exact q
    · split
      · exact HazardStable.same (countError_same w) q
      · unfold testAddresses
        split
        · exact HazardStable.same (setDuplicate_same w) q
        · split
          · exact q
          · split
            · exact q
            · split
              · exact q
              · exact S.routed _ _ (HazardStable.same (heard_same _ w) q)

theorem frameCompleted (c : List Byte) (q : Q w.hazard) : Q (completeFrame c w).hazard := by
  have q₁ : Q (setReceiver .hunt [] w).hazard := HazardStable.same (setReceiver_same _ _ w) q
  unfold completeFrame
  dsimp only
  split
  · exact q₁
  · exact S.frameTested _ q₁

theorem collected (b : List Byte) (q : Q w.hazard) : Q (collect b w).hazard := by
  unfold collect
  split
  · exact HazardStable.same (discard_same w) q
  · split
    · exact S.frameCompleted b q
    · exact HazardStable.same (setReceiver_same _ _ w) q

theorem character (c : Byte) (q : Q w.hazard) : Q (characterArrives c w).hazard := by
  have q₁ : Q (lineFreed w).hazard := HazardStable.same (lineFreed_same w) q
  unfold characterArrives
  split
  · dsimp only
    split
    · split
      · exact S.collected _ q₁
      · exact HazardStable.same (discard_same _) q₁
    · exact S.collected _ q₁
    · exact q₁
  · exact q

theorem loaded (a : Bool) (q : Q w.hazard) : Q (loaderFinishes a w).hazard := by
  unfold loaderFinishes
  split
  · dsimp only
    unfold startLevel
    split
    · exact S.changed _ _
    · rw [(startTimers_same _) .hazard (by decide)]
      exact S.quiet (h := w.hazard) rfl rfl q
  · exact q

theorem reported (r : ModuleReport) (q : Q w.hazard) : Q (takeReport r w).hazard := by
  unfold takeReport
  split
  · exact S.round (HazardStable.same (settleWindow_same _ _ _) (HazardStable.same (updateModule_same _ _ w) q))
  · exact q

theorem windowExpired (n : Nat) (q : Q w.hazard) : Q (expireWindow n w).hazard := by
  unfold expireWindow
  dsimp only
  split
  · have q₁ : Q (settleWindow (n - 1) .missed (updateModule (n - 1) ModuleRecord.miss w)).hazard :=
      HazardStable.same (settleWindow_same _ _ _) (HazardStable.same (updateModule_same _ _ w) q)
    refine S.round (HazardStable.same (reviewVisibility_same _) ?_)
    unfold Work.onlyIf
    split
    · exact HazardStable.same (updateBalance_same _ _) q₁
    · exact q₁
  · exact q

theorem terminal (k : Contact) (a : Bool) (q : Q w.hazard) : Q (terminalChanges k a w).hazard := by
  unfold terminalChanges
  split
  · exact S.quiet (h := w.hazard) rfl rfl q
  · exact S.quiet (h := w.hazard) rfl rfl q
  · exact S.quiet (h := w.hazard) rfl rfl q
  · exact S.quiet (h := w.hazard) rfl rfl q
  · exact q

theorem countdown (q : Q w.hazard) : Q (countdownEnds w).hazard := by
  unfold countdownEnds
  split
  · unfold enterReleasing
    dsimp only
    split
    · exact S.changed _ _
    · exact S.changed _ _
  · exact q

theorem confirmed (q : Q w.hazard) : Q (confirmationExpires w).hazard := by
  unfold confirmationExpires
  split
  · exact S.quiet (h := w.hazard) rfl rfl q
  · exact q

theorem retried (q : Q w.hazard) : Q (retryWrite w).hazard := by
  unfold retryWrite
  split
  · exact S.quiet (h := w.hazard) rfl rfl q
  · exact q

omit S in
/-- A command run to its end keeps what its effect keeps. -/
theorem run {f : Work → Work} {s t : State} (keeps : Q (f (Work.start s)).hazard) (run : runCommand f s = .next t) :
    Q t.hazard := by
  rw [runCommand_hazard run]; exact keeps

/-- Every command keeps a property that holds at the reset values. -/
theorem exec (fresh : ∀ ms a b c d e f, Q (.reset ms a b c d e f)) {c : Instr} {s t : State} (q : Q s.hazard)
    (run : exec c s = .next t) : Q t.hazard := by
  cases c
  case powerOn k => exact HazardStable.run (f := powerApplied k.toNat) (fresh _ _ _ _ _ _ _) run
  case resetInput => exact HazardStable.run (f := resetAsserted) (fresh _ _ _ _ _ _ _) run
  case resetRelease k => exact HazardStable.run (f := resetReleased k.toNat) (prop_ite (P := fun w => Q w.hazard) q q) run
  case loaderFinish a => exact HazardStable.run (S.loaded a q) run
  case uptimeSecond => exact HazardStable.run (HazardStable.same (secondPasses_same _) q) run
  case scanRoundStart => exact HazardStable.run (HazardStable.same (startRound_same _) q) run
  case moduleRequestSent => exact HazardStable.run (HazardStable.same (requestSent_same _) q) run
  case moduleReport r => exact HazardStable.run (S.reported r q) run
  case answerWindowExpiry n => exact HazardStable.run (S.windowExpired n q) run
  case currentConversion i => exact HazardStable.run (HazardStable.same (convertCurrent_same i _) q) run
  case calibrationAtFull => exact HazardStable.run (HazardStable.same (calibrateFull_same _) q) run
  case gasLoopConversion a b => exact HazardStable.run (HazardStable.same (convertGas_same a b _) q) run
  case temperatureConversion a b d => exact HazardStable.run (HazardStable.same (convertTemperatures_same a b d _) q) run
  case fastTripComparator d i => exact HazardStable.run (HazardStable.same (compareTrip_same d i _) q) run
  case gasLevelComparator l g n => exact HazardStable.run (f := compareLevel l g n) (prop_ite (P := fun w => Q w.hazard) (S.levelTaken l g n q) q) run
  case loopFaultComparator l i => exact HazardStable.run (S.faultCompared l i q) run
  case balanceEvaluation => exact HazardStable.run (HazardStable.same (evaluateBalance_same _) q) run
  case minimumOnTimerExpiry => exact HazardStable.run (HazardStable.same (minOnExpires_same _) q) run
  case minimumOffTimerExpiry => exact HazardStable.run (HazardStable.same (minOffExpires_same _) q) run
  case runFeedbackChange a => exact HazardStable.run (HazardStable.same (feedbackChanges_same a _) q) run
  case compressorStartMonitorExpiry => exact HazardStable.run (HazardStable.same (monitorExpires_same _) q) run
  case tachPulse d => exact HazardStable.run (HazardStable.same (tachPulses_same d _) q) run
  case tachWindowEnd => exact HazardStable.run (HazardStable.same (tachWindowEnds_same _) q) run
  case retryTimerExpiry => exact HazardStable.run (HazardStable.same (retryExpires_same _) q) run
  case pwmPeriodStart => exact HazardStable.run (HazardStable.same (pwmPeriodStarts_same _) q) run
  case smokeLoopBandChange l mv => exact HazardStable.run (f := smokeBandMoves l mv) (S.quiet (h := s.hazard) (by cases l <;> rfl) (by cases l <;> rfl) q) run
  case smokeLoopPersistenceExpiry l => exact HazardStable.run (S.smoke l q) run
  case contactTerminalChange k a => exact HazardStable.run (S.terminal k a q) run
  case contactInputSettled k => exact HazardStable.run (S.contact k q) run
  case heatRiseSample => exact HazardStable.run (S.heat q) run
  case hazardFirstEvaluation => exact HazardStable.run (S.evaluated q) run
  case escalationTimerExpiry => exact HazardStable.run (f := escalates) (prop_ite (P := fun w => Q w.hazard) (S.changed _ _) q) run
  case fallBackTimerExpiry => exact HazardStable.run (f := fallsBack) (prop_ite (P := fun w => Q w.hazard) (S.changed _ _) q) run
  case quietTimerExpiry => exact HazardStable.run (f := quietEnds) (prop_ite (P := fun w => Q w.hazard) (S.changed _ _) q) run
  case countdownEnd => exact HazardStable.run (S.countdown q) run
  case dischargeConfirmationExpiry => exact HazardStable.run (S.confirmed q) run
  case lockoutWriteStart => exact HazardStable.run (HazardStable.same (startWrite_same _) q) run
  case lockoutWriteCompletion a held => exact HazardStable.run (S.writeEnded a held q) run
  case lockoutRetryExpiry => exact HazardStable.run (S.retried q) run
  case maintenanceClear => exact HazardStable.run (f := keyTurns) (prop_ite (P := fun w => Q w.hazard) (S.turned q) q) run
  case setpointPeriod => exact HazardStable.run (HazardStable.same (periodExpires_same _) q) run
  case converterAnswer a => exact HazardStable.run (HazardStable.same (connAnswer_same a _) q) run
  case gridHealthyDelayReached => exact HazardStable.run (HazardStable.same (gridDelayReached_same _) q) run
  case prechargeTimeout => exact HazardStable.run (HazardStable.same (prechargeTimesOut_same _) q) run
  case readyTimeout => exact HazardStable.run (HazardStable.same (readyTimesOut_same _) q) run
  case rideThroughExpired => exact HazardStable.run (HazardStable.same (rideTimesOut_same _) q) run
  case disconnectWaitExpiry => exact HazardStable.run (HazardStable.same (disconnectTimesOut_same _) q) run
  case visibilityTimerExpiry => exact HazardStable.run (HazardStable.same (visibilityExpires_same _) q) run
  case retryDelayExpiry => exact HazardStable.run (HazardStable.same (retryDelayEnds_same _) q) run
  case receiverIdleReached => exact HazardStable.run (HazardStable.same (lineQuiet_same _) q) run
  case receiveFault f => exact HazardStable.run (HazardStable.same (receiveFaults_same f _) q) run
  case frameComplete b => exact HazardStable.run (f := lastCharacter b) (prop_ite (P := fun w => Q w.hazard) (S.frameCompleted _ (HazardStable.same (lineFreed_same _) q)) q) run
  case transmitStart => exact HazardStable.run (HazardStable.same (transmits_same _) q) run
  case deferral => exact HazardStable.run (HazardStable.same (defers_same _) q) run
  case collision => exact HazardStable.run (HazardStable.same (collide_same _) q) run
  case frameSent => exact HazardStable.run (HazardStable.same (frameIsSent_same _) q) run
  case errorWindowEnd => exact HazardStable.run (HazardStable.same (windowEnds_same _) q) run
  case peerAgeingTick => exact HazardStable.run (HazardStable.same (ageEntries_same _) q) run
  case stalenessTimerExpiry => exact HazardStable.run (HazardStable.same (dispatchStales_same _) q) run
  case listeningTimerExpiry => exact HazardStable.run (HazardStable.same (listeningEnds_same _) q) run
  case learningTimerExpiry => exact HazardStable.run (HazardStable.same (learningEnds_same _) q) run
  case statusTimerExpiry => exact HazardStable.run (HazardStable.same (statusDue_same _) q) run
  case askOneSecondCheck => exact HazardStable.run (HazardStable.same (oneSecondCheck_same _) q) run
  case askThirtySecondCheck => exact HazardStable.run (HazardStable.same (thirtySecondCheck_same _) q) run
  case holdLimitExpiry => exact HazardStable.run (HazardStable.same (holdLimit_same _) q) run
  case backoffExpiry => exact HazardStable.run (HazardStable.same (backoffEnds_same _) q) run
  case lampFlashTick l => exact HazardStable.run (HazardStable.same (lampToggles_same l _) q) run
  case characterTaken b => exact HazardStable.run (S.character b q) run

end HazardStable

end Sys2Proof.Machine
end

