-- ==== Sys2Proof/Laws/Bleed.lean ====
section
/-! SUPPORT. Bleed sets and the hazard level: which operations leave every bleed set empty from PRE_ALARM on (R37, R40). -/

set_option Elab.async false

namespace Sys2Proof.Machine

/-- From PRE_ALARM on every bleed set is empty. -/
def BleedOk (w : Work) : Prop := w.hazard.level.isPre = true → ∀ set ∈ w.balance.sets, set = []

theorem changeLevel_balance (new : HazardLevel) (c : Cause) (w : Work) :
    (changeLevel new c w).balance = (if new.isPre then { w.balance with sets := noSets, result := .idleHazard, target := none } else w.balance) := by
  unfold changeLevel reportLevel
  dsimp only
  rw [(connHazardReport_same _) .balance (by decide), (reportHazardDerate_same _) .balance (by decide)]
  unfold balanceHazardReport inhibit
  have hl : ∀ o (w : Work), (thermalHazardReport (permitHazardReport o w)).hazard = w.hazard := fun o w =>
    (thermalHazardReport_hazard _).trans ((permitHazardReport_same o w) .hazard (by decide))
  have hb : ∀ o (w : Work), (thermalHazardReport (permitHazardReport o w)).balance = w.balance := fun o w =>
    ((thermalHazardReport_same _) .balance (by decide)).trans ((permitHazardReport_same o w) .balance (by decide))
  have hp : ∀ f w, (placeHazard f w).balance = w.balance := fun f w => (placeHazard_same f w) .balance (by decide)
  have hp2 : ∀ f w, (placeHazard f w).hazard = w.hazard := fun f w => (placeHazard_same f w) .hazard (by decide)
  rw [hl, hp2]
  by_cases h : new.writesLockout <;> simp [h, requestLockout, HazardState.changed] <;> split <;> simp [hb, hp]

theorem noSets_empty : ∀ set ∈ noSets, set = [] := by simp [noSets]

theorem bleed_changeLevel (new : HazardLevel) (c : Cause) (w : Work) : BleedOk (changeLevel new c w) := by
  intro h
  rw [changeLevel_level] at h
  rw [changeLevel_balance, if_pos h]
  exact noSets_empty

theorem bleed_same {K : List Block} {w w' : Work} (h : Same K w w') (p : BleedOk w) (h1 : Block.level ∉ K := by decide)
    (h2 : Block.balance ∉ K := by decide) : BleedOk w' := by
  unfold BleedOk; rw [h .level h1, h .balance h2]; exact p

theorem bleed_sets {w : Work} (f : BalanceState → BalanceState) (p : BleedOk w) (h : ∀ set ∈ (f w.balance).sets, set ∈ w.balance.sets ∨ set = []) :
   BleedOk (updateBalance f w) := by
  intro hl set hs
  rcases h set hs with h | h
  · exact p hl set h
  · exact h

theorem bleed_rising (l : List Indication) {w : Work} (p : BleedOk w) : BleedOk (applyRising l w) := by
  unfold applyRising; dsimp only; split
  · exact bleed_changeLevel _ _ _
  · exact p

theorem bleed_set (l : List Indication) {w : Work} (p : BleedOk w) : BleedOk (changeSet l w) := by
  unfold changeSet; split
  · exact p
  · refine bleed_rising _ (bleed_same (updateHazard_course (by simp [HazardState.quietTimer_level, HazardState.preTimers_level]) (by simp [HazardState.quietTimer_latches, HazardState.preTimers_latches])) (bleed_same (thermalHazardReport_same _) (bleed_same updateHazard_course p)))

theorem mem_changeAt {α : Type} {f : α → α} {i : Nat} {l : List α} {x : α} (h : x ∈ changeAt f i l) : x ∈ l ∨ ∃ y ∈ l, x = f y := by
  induction l generalizing i with
  | nil => simp [changeAt] at h
  | cons y ys ih =>
    cases i with
    | zero =>
      simp only [changeAt, List.mem_cons] at h
      rcases h with rfl | h
      · exact .inr ⟨y, by simp, rfl⟩
      · exact .inl (by simp [h])
    | succ i =>
      simp only [changeAt, List.mem_cons] at h
      rcases h with rfl | h
      · exact .inl (by simp)
      · rcases ih h with h | ⟨z, hz, e⟩
        · exact .inl (by simp [h])
        · exact .inr ⟨z, by simp [hz], e⟩

theorem emptySet_sets (r : Exclusion) (i : Nat) (b : BalanceState) : ∀ set ∈ (emptySet r i b).sets, set ∈ b.sets ∨ set = [] := by
  intro set h
  rcases mem_changeAt h with h | ⟨_, _, h⟩
  · exact .inl h
  · exact .inr h

theorem retest_sets (w : Work) (l : List Nat) (b : BalanceState) : ∀ set ∈ (l.foldl (retestModule w) b).sets, set ∈ b.sets ∨ set = [] := by
  induction l generalizing b with
  | nil => intro set h; exact .inl h
  | cons i l ih =>
    intro set h
    rcases ih _ set h with h | h
    · unfold retestModule at h
      dsimp only at h
      split at h
      · exact emptySet_sets _ _ _ _ h
      · split at h
        · exact emptySet_sets _ _ _ _ h
        · exact .inl h
    · exact .inr h

theorem bleed_evaluate {w : Work} (p : BleedOk w) : BleedOk (evaluateBalance w) := by
  unfold evaluateBalance
  split
  · dsimp only
    split
    · rename_i h
      intro hl
      exfalso
      have : w.hazard.level.isPre = true := hl
      simp [stringResult, this] at h
    · refine bleed_sets _ p ?_
      intro set h
      exact .inr (noSets_empty set h)
  · exact p

theorem bleed_hazardSummary (x : Summary) {w : Work} (p : BleedOk w) : BleedOk (hazardSummary x w) := by
  unfold hazardSummary
  split
  · exact bleed_set _ p
  · exact p

theorem bleed_publish {w : Work} (p : BleedOk w) : BleedOk (publish w) := by
  unfold publish
  split
  · refine bleed_same (connSummary_same _) (bleed_same (limitSummary_same _) (bleed_hazardSummary _ (bleed_same (thermalSummary_same _) ?_)))
    refine bleed_sets _ (bleed_same (chargeSummary_same _ _) (bleed_same (updateScan_same _ w) p)) ?_
    intro set h; left; revert h; split <;> exact id
  · exact p

theorem bleed_round {w : Work} (p : BleedOk w) : BleedOk (completeRound w) := by
  unfold completeRound
  split
  · split
    · refine bleed_sets _ (bleed_sets _ (bleed_publish (bleed_same (reviewVisibility_same _) (bleed_same (updateScan_same _ w) p))) (retest_sets _ _ _)) ?_
      intro set h; exact .inl h
    · exact p
  · exact p

theorem bleed_inhibit (r : BalanceResult) {w : Work} (p : BleedOk w) : BleedOk (inhibit r w) :=
  bleed_sets _ p fun set h => .inr (noSets_empty set h)

theorem bleed_maintenance {w : Work} (p : BleedOk w) : BleedOk (hazardMaintenanceClear w) := by
  unfold hazardMaintenanceClear
  split
  · exact p
  · split
    · have q := bleed_changeLevel .clear .maintClear w
      dsimp only
      generalize changeLevel .clear .maintClear w = x at q
      refine bleed_rising _ (bleed_same (requestLockout_same _ _) ?_)
      intro h; exact q h
    · intro h; exact p h

theorem bleed_turned {w : Work} (p : BleedOk w) : BleedOk (keyTurned w) := by
  have q₁ := bleed_same (updateKey_same ContactInput.settle w) p
  have q₂ := bleed_same (scanMaintenanceClear_same _) q₁
  have q₃ := bleed_same (thermalMaintenanceClear_same _) q₂
  unfold keyTurned
  dsimp only
  split
  · exact bleed_same (connMaintenanceClear_same _) (bleed_maintenance q₃)
  · exact q₁

theorem bleed_contact (c : Contact) {w : Work} (p : BleedOk w) : BleedOk (contactSettles c w) := by
  unfold contactSettles
  split
  · unfold callPointSettles
    split
    · exact bleed_set _ p
    · exact p
  · exact prop_ite (P := BleedOk) p p
  · exact prop_ite (P := BleedOk) p p
  · unfold dischargedSettles
    split
    · dsimp only
      split
      · unfold dischargedActive
        split
        · exact bleed_changeLevel _ _ _
        · exact p
      · exact p
    · exact p
  · unfold keySettles
    split
    · exact bleed_turned p
    · exact p

theorem bleed_taken (l : DetectorLoop) (g : GasLevel) (ppm : Nat) {w : Work} (p : BleedOk w) : BleedOk (takeLevel l g ppm w) := by
  unfold takeLevel; dsimp only
  exact prop_ite (P := BleedOk) p (bleed_set _ p)

end Sys2Proof.Machine
end

