-- ==== Sys2Proof/Laws/Locked.lean ====
section
/-! SUPPORT. The connection unit at rest: in LOCKED with the reason HAZARD no event of the unit moves it while the level stays at ALARM or
above (R182, R183), and a unit that does not run stays in OPEN (R184). -/

set_option Elab.async false

namespace Sys2Proof.Machine

/-- LOCKED with the reason HAZARD. -/
def HazardLocked (c : ConnState) : Prop := c.phase = .locked ∧ c.locks.hazard = true

/-- A change of state gives the connection unit the state entered, with the switchings of the event recorded (R169). -/
theorem changeState_conn (p : ConnPhase) (t : Timer) (c : Option ExitCause) (w : Work) :
    (changeState p t c w).conn = (recordSwitches p w).conn.enter p t (exitCause c w.freeCount) w.now := by
  unfold changeState Work.onlyIf; dsimp only; split <;> rfl

/-- An entry into LOCKED with the reason HAZARD. -/
theorem enterLocked_hazard (c : Option ExitCause) (w : Work) : HazardLocked (enterLocked c addHazard w).conn := by
  unfold enterLocked HazardLocked
  rw [changeState_conn]
  refine ⟨rfl, ?_⟩
  simp only [ConnState.enter, LockReasons.withDuplicate, addHazard]
  split <;> rfl

theorem leaveOpenTest_of_not_open {w : Work} (h : w.conn.phase ≠ .opened) : leaveOpenTest w = w := by
  unfold leaveOpenTest
  rw [if_neg]
  exact fun hp => h hp.1

theorem leaveOpenTest_of_not_configured {w : Work} (h : w.configured = false) : leaveOpenTest w = w := by
  unfold leaveOpenTest mayLeaveOpen
  rw [if_neg]
  simp [h]

section
variable {w : Work}

/-- Notices and permit operations leave the connection unit alone. -/
theorem conn_of_same {K : List Block} {w' : Work} (h : Same K w w') (hk : Block.conn ∉ K := by decide) : w'.conn = w.conn :=
  (h .conn hk).1

theorem hazardLock_locks (w : Work) : HazardLocked (hazardLock w).conn := by
  unfold hazardLock
  split
  · unfold abort
    have h : HazardLocked (completeNeed false .notStarted (abortState .alarm w)).conn := by
      rw [conn_of_same (completeNeed_same _ _ _)]
      exact enterLocked_hazard _ _
    rw [leaveOpenTest_of_not_open (by rw [h.1]; decide)]
    exact h
  · split
    · rename_i h
      refine ⟨h, ?_⟩
      simp only [updateConn_conn, LockReasons.withDuplicate, addHazard]
      split <;> rfl
    · exact enterLocked_hazard _ _

theorem connHazardReport_locks (hc : w.configured = true) (ha : w.hazard.level.isAlarm = true) :
    HazardLocked (connHazardReport w).conn := by
  unfold connHazardReport
  rw [if_pos hc, if_pos ha]
  exact hazardLock_locks w

/-- What keeps HAZARD-LOCKED: every event of the unit but the report of a level below ALARM. -/
theorem HazardLocked.leaveOpenTest (h : HazardLocked w.conn) : HazardLocked (leaveOpenTest w).conn := by
  rw [leaveOpenTest_of_not_open (by rw [h.1]; decide)]; exact h

theorem HazardLocked.update {f : ConnState → ConnState} (h : HazardLocked w.conn) (hp : (f w.conn).phase = w.conn.phase := by rfl)
    (hl : (f w.conn).locks.hazard = w.conn.locks.hazard := by rfl) : HazardLocked (updateConn f w).conn := by
  refine ⟨?_, ?_⟩
  · rw [updateConn_conn, hp]; exact h.1
  · rw [updateConn_conn, hl]; exact h.2

theorem HazardLocked.orderlyCause (c : ExitCause) (h : HazardLocked w.conn) : HazardLocked (orderlyCause c w).conn := by
  have hp := h.1
  unfold Machine.orderlyCause
  simp only [hp, ConnPhase.inSequence, ConnPhase.delivers]
  simpa using h

theorem HazardLocked.immediateOpen (c : ExitCause) (h : HazardLocked w.conn) : HazardLocked (immediateOpen c w).conn := by
  have hp := h.1
  unfold Machine.immediateOpen
  simp only [hp, ConnPhase.inSequence, ConnPhase.delivers]
  simpa using h

theorem HazardLocked.hazardLock (_ : HazardLocked w.conn) : HazardLocked (hazardLock w).conn := hazardLock_locks w

theorem HazardLocked.connDuplicate (h : HazardLocked w.conn) : HazardLocked (connDuplicate w).conn := by
  have hp := h.1
  unfold Machine.connDuplicate
  simp only [hp]
  split
  · exact h.update (f := fun c => { c with locks := addDuplicate c.locks })
  · exact h

theorem HazardLocked.stopTest (h : HazardLocked w.conn) : HazardLocked (stopTest w).conn := by
  have hp := h.1
  unfold Machine.stopTest
  simp only [hp]
  simpa using h

theorem HazardLocked.connDispatchReport (h : HazardLocked w.conn) : HazardLocked (connDispatchReport w).conn := by
  have hp := h.1
  unfold Machine.connDispatchReport
  simp only [hp, reduceCtorEq, if_false]
  exact prop_ite (P := fun w => HazardLocked w.conn) (prop_ite (P := fun w => HazardLocked w.conn) (h.orderlyCause _) h) h

theorem HazardLocked.connVisibilityReport (h : HazardLocked w.conn) : HazardLocked (connVisibilityReport w).conn :=
  prop_ite (P := fun w => HazardLocked w.conn) (HazardLocked.leaveOpenTest h.update) h

theorem HazardLocked.visibilityExpires (h : HazardLocked w.conn) : HazardLocked (visibilityExpires w).conn :=
  prop_ite (P := fun w => HazardLocked w.conn) (HazardLocked.orderlyCause _ h.update) h

theorem HazardLocked.connFastTrip (d : Direction) (h : HazardLocked w.conn) : HazardLocked (connFastTrip d w).conn := by
  have q : HazardLocked (updateConn (fun c => c.setTrip d true) w).conn := h.update (by cases d <;> rfl) (by cases d <;> rfl)
  unfold Machine.connFastTrip
  split
  · dsimp only
    rw [if_neg (by rw [q.1]; decide)]
    exact q.immediateOpen _
  · exact h

theorem HazardLocked.connFastTripClear (d : Direction) (h : HazardLocked w.conn) : HazardLocked (connFastTripClear d w).conn := by
  unfold Machine.connFastTripClear
  split
  · exact HazardLocked.leaveOpenTest (h.update (by cases d <;> rfl) (by cases d <;> rfl))
  · exact h

theorem HazardLocked.connSummary (h : HazardLocked w.conn) : HazardLocked (connSummary w).conn := by
  unfold Machine.connSummary
  split
  · split
    · exact (h.immediateOpen _).leaveOpenTest
    · exact h.leaveOpenTest
  · exact h

theorem HazardLocked.connRetest (h : HazardLocked w.conn) : HazardLocked (connRetest w).conn :=
  prop_ite (P := fun w => HazardLocked w.conn) h.leaveOpenTest h

theorem HazardLocked.connMaintenanceClear (h : HazardLocked w.conn) : HazardLocked (connMaintenanceClear w).conn := by
  unfold Machine.connMaintenanceClear
  split
  · have q : HazardLocked (updateConn (fun c => { c with failures := 0, locks := { c.locks with failures := false } }) w).conn :=
      h.update
    unfold unlockIfEmpty
    rw [if_neg]
    · exact q
    · intro hn
      have := h.2
      simp [LockReasons.isEmpty, this] at hn
  · exact h

theorem HazardLocked.linkLost (h : HazardLocked w.conn) : HazardLocked (linkLost w).conn := by
  have q : HazardLocked (updateConn (fun c => { c with linkUp := false, gridTimer := none, gridReached := false }) w).conn :=
    h.update
  unfold Machine.linkLost
  dsimp only
  rw [if_neg (by rw [q.1]; decide)]
  exact q.immediateOpen _

theorem HazardLocked.countMiss (h : HazardLocked w.conn) : HazardLocked (countMiss w).conn := by
  have q : HazardLocked (updateConn (fun c => { c with misses := satSucc 5 c.misses }) w).conn := h.update
  unfold Machine.countMiss
  split
  · exact prop_ite (P := fun w => HazardLocked w.conn) q.linkLost q
  · exact h

theorem HazardLocked.sendSetpoint (h : HazardLocked w.conn) : HazardLocked (sendSetpoint w).conn := h.update

theorem HazardLocked.connPeriod (h : HazardLocked w.conn) : HazardLocked (connPeriod w).conn :=
  prop_ite (P := fun w => HazardLocked w.conn) h.countMiss.sendSetpoint.stopTest h

theorem HazardLocked.connAnswer (a : ConverterAnswer) (h : HazardLocked w.conn) : HazardLocked (connAnswer a w).conn := by
  have q : HazardLocked (updateConn (fun c => c.takeAnswer a w.now) w).conn := h.update
  unfold Machine.connAnswer
  split
  · unfold useAnswer
    rw [q.1]
    exact q
  · exact h

theorem HazardLocked.gridDelayReached (h : HazardLocked w.conn) : HazardLocked (gridDelayReached w).conn := by
  unfold Machine.gridDelayReached
  split
  · exact HazardLocked.leaveOpenTest h.update
  · exact h

theorem stateTimerRuns_phase {p : ConnPhase} (h : stateTimerRuns p w = true) : w.conn.phase = p := by
  simp only [stateTimerRuns, Bool.and_eq_true, decide_eq_true_eq] at h
  exact h.1.2

/-- A state timer of another state is no event in LOCKED. -/
theorem stateTimerRuns_locked {p : ConnPhase} (h : w.conn.phase = .locked) (hp : p ≠ .locked) : ¬ stateTimerRuns p w = true :=
  fun ht => hp ((stateTimerRuns_phase ht).symm.trans h)

theorem HazardLocked.takeNotice (n : Notice) (h : HazardLocked w.conn) : HazardLocked (takeNotice n w).conn := by
  unfold Machine.takeNotice
  split
  · split
    · rw [conn_of_same (thermalHeld_same _)]; exact h
    · unfold connHeld
      rw [if_neg (by rw [h.1]; decide), conn_of_same (completeNeed_same _ _ _)]
      exact h
  · split
    · rw [conn_of_same (thermalCleared_same _)]; exact h
    · unfold connCleared
      rw [if_neg (by rw [h.1]; decide), if_neg (by rw [h.1]; decide)]
      exact h
  · split
    · exact h
    · unfold connEnded
      rw [if_neg (by rw [h.1]; decide)]
      exact h

theorem HazardLocked.deliver (fuel : Nat) (h : HazardLocked w.conn) : HazardLocked (deliver fuel w).conn := by
  induction fuel generalizing w with
  | zero => exact h
  | succ n ih =>
    unfold Machine.deliver
    split
    · exact h
    · exact ih (HazardLocked.takeNotice _ h)

theorem HazardLocked.finish (h : HazardLocked w.conn) : HazardLocked (finish w).conn := by
  unfold Machine.finish
  rw [conn_of_same (refreshLamps_same _)]
  exact h.deliver _

end

/-! ## Whole operations -/

/-- At ALARM or above a unit that runs is LOCKED with the reason HAZARD (R182). -/
def LockOk (w : Work) : Prop := w.configured = true → w.hazard.level.isAlarm = true → HazardLocked w.conn

theorem configured_of_same {K : List Block} {w w' : Work} (h : Same K w w') (hk : Block.config ∉ K := by decide) : w'.configured = w.configured := by
  have := h .config hk
  simp only [Block.agrees, LoaderState.fixed, Prod.mk.injEq] at this
  simp only [Work.configured, Work.running]
  rw [this.1.1, this.1.2.2.2]

theorem LockOk.same {K : List Block} {w w' : Work} (h : Same K w w') (p : LockOk w) (h0 : Block.config ∉ K := by decide) (h1 : Block.level ∉ K := by decide)
    (h2 : Block.conn ∉ K := by decide) : LockOk w' := by
  unfold LockOk; rw [configured_of_same h h0, h .level h1, (h .conn h2).1]; exact p

/-- An operation of the connection unit that keeps LOCKED with HAZARD. -/
theorem LockOk.op {K : List Block} {w w' : Work} (h : Same K w w') (p : LockOk w) (l : HazardLocked w.conn → HazardLocked w'.conn)
   (h0 : Block.config ∉ K := by decide) (h1 : Block.level ∉ K := by decide) : LockOk w' := by
  unfold LockOk; rw [configured_of_same h h0, h .level h1]; exact fun a b => l (p a b)

/-- Every change of level ends with it: a report of ALARM or above locks the unit. -/
theorem lock_changeLevel (new : HazardLevel) (c : Cause) (w : Work) : LockOk (changeLevel new c w) := by
  intro hc ha
  rw [changeLevel_level] at ha
  rw [configured_of_same (changeLevel_same _ _ _)] at hc
  unfold changeLevel reportLevel
  dsimp only
  apply connHazardReport_locks
  · rw [configured_of_same (reportHazardDerate_same _), configured_of_same (balanceHazardReport_same _), configured_of_same (thermalHazardReport_same _),
      configured_of_same (permitHazardReport_same _ _), configured_of_same (placeHazard_same _ _)]
    split
    · rw [configured_of_same (requestLockout_same _ _)]; exact hc
    · exact hc
  · rw [(reportHazardDerate_same _) .level (by decide), (balanceHazardReport_same _) .level (by decide), (thermalHazardReport_same _) .level (by decide),
      (permitHazardReport_same _ _) .level (by decide), (placeHazard_same _ _) .level (by decide)]
    split
    · rw [(requestLockout_same _ _) .level (by decide)]; exact ha
    · exact ha

theorem lock_rising (l : List Indication) {w : Work} (p : LockOk w) : LockOk (applyRising l w) := by
  unfold applyRising; dsimp only; split
  · exact lock_changeLevel _ _ _
  · exact p

theorem lock_set (l : List Indication) {w : Work} (p : LockOk w) : LockOk (changeSet l w) := by
  unfold changeSet; split
  · exact p
  · refine lock_rising _ (LockOk.same (updateHazard_course (by simp [HazardState.quietTimer_level, HazardState.preTimers_level]) (by simp [HazardState.quietTimer_latches, HazardState.preTimers_latches])) (LockOk.same (thermalHazardReport_same _) (LockOk.same updateHazard_course p)))

theorem lock_visibility {w : Work} (p : LockOk w) : LockOk (reviewVisibility w) := by
  unfold reviewVisibility; dsimp only; split
  · exact p
  · unfold reportVisibility
    refine LockOk.op (connVisibilityReport_same _) ?_ (fun h => h.connVisibilityReport)
    exact LockOk.same (chargeVisibility_same _) (LockOk.same (reportVisibilityFactor_same _) (LockOk.same (updateScan_same _ w) p))

theorem lock_summary (x : Summary) {w : Work} (p : LockOk w) : LockOk (hazardSummary x w) := by
  unfold hazardSummary
  split
  · exact lock_set _ p
  · exact p

theorem lock_publish {w : Work} (p : LockOk w) : LockOk (publish w) := by
  unfold publish
  split
  · refine LockOk.op (connSummary_same _) ?_ (fun h => h.connSummary)
    exact LockOk.same (limitSummary_same _) (lock_summary _ (LockOk.same (thermalSummary_same _) (LockOk.same (balanceSummary_same _) (LockOk.same (chargeSummary_same _ _) (LockOk.same (updateScan_same _ w) p)))))
  · exact p

theorem lock_round {w : Work} (p : LockOk w) : LockOk (completeRound w) := by
  unfold completeRound
  split
  · split
    · exact LockOk.same (creditRound_same _ _) (LockOk.same (retestSets_same _) (lock_publish (lock_visibility (LockOk.same (updateScan_same _ w) p))))
    · exact p
  · exact p

theorem lock_maintenance {w : Work} (p : LockOk w) : LockOk (hazardMaintenanceClear w) := by
  unfold hazardMaintenanceClear
  split
  · exact p
  · split
    · have q := lock_changeLevel .clear .maintClear w
      dsimp only
      generalize changeLevel .clear .maintClear w = x at q
      refine lock_rising _ (LockOk.same (requestLockout_same _ _) ?_)
      exact q
    · exact p

theorem lock_turned {w : Work} (p : LockOk w) : LockOk (keyTurned w) := by
  have q₁ := LockOk.same (updateKey_same ContactInput.settle w) p
  have q₂ : LockOk (scanMaintenanceClear (updateKey ContactInput.settle w)) := lock_visibility (LockOk.same (updateScan_same _ _) q₁)
  have q₃ := LockOk.same (thermalMaintenanceClear_same _) q₂
  unfold keyTurned
  dsimp only
  split
  · exact LockOk.op (connMaintenanceClear_same _) (lock_maintenance q₃) (fun h => h.connMaintenanceClear)
  · exact q₁

theorem lock_discharged {w : Work} (p : LockOk w) : LockOk (dischargedActive w) := by
  unfold dischargedActive
  split
  · exact lock_changeLevel _ _ _
  · exact p

theorem lock_contact (c : Contact) {w : Work} (p : LockOk w) : LockOk (contactSettles c w) := by
  unfold contactSettles
  split
  · unfold callPointSettles
    split
    · exact lock_set _ p
    · exact p
  · exact prop_ite (P := LockOk) p p
  · exact prop_ite (P := LockOk) p p
  · unfold dischargedSettles
    split
    · exact prop_ite (P := LockOk) (lock_discharged p) p
    · exact p
  · unfold keySettles
    split
    · exact lock_turned p
    · exact p

theorem lock_taken (l : DetectorLoop) (g : GasLevel) (ppm : Nat) {w : Work} (p : LockOk w) : LockOk (takeLevel l g ppm w) := by
  unfold takeLevel; dsimp only
  exact prop_ite (P := LockOk) p (lock_set _ p)

theorem lock_neighbours {w : Work} (p : LockOk w) : LockOk (reviewNeighbours w) := LockOk.same (reviewNeighbours_same w) p

theorem lock_dispatch (n : Nat) (x : Int) (r : Nat) (m : DispatchMode) {w : Work} (p : LockOk w) : LockOk (takeDispatch n x r m w) := by
  unfold takeDispatch; split
  · refine prop_ite (P := LockOk) p ?_
    exact LockOk.op (connDispatchReport_same _) p (fun h => h.connDispatchReport)
  · exact p

theorem lock_duplicate {w : Work} (p : LockOk w) : LockOk (setDuplicate w) := by
  unfold setDuplicate; split
  · exact p
  · exact LockOk.same (permitDuplicate_same _) (LockOk.op (connDuplicate_same _) p (fun h => h.connDuplicate))

theorem lock_route (n : Nat) (m : Message) {w : Work} (p : LockOk w) : LockOk (route n m w) := by
  unfold route
  split
  · exact LockOk.same (takePresent_same _ _ _ w) p
  · exact LockOk.same (takeStatus_same _ _ _ _ w) p
  · exact LockOk.same (takeHazard_same _ _ _ w) p
  · exact lock_dispatch _ _ _ _ p
  · exact prop_ite (P := LockOk) p (LockOk.same (answerAsk_same _ _ _ _ _ w) p)
  · exact prop_ite (P := LockOk) p (LockOk.same (takeGrant_same _ _ w) p)
  · exact prop_ite (P := LockOk) p (LockOk.same (takeDefer_same _ _ w) p)
  · exact prop_ite (P := LockOk) p (LockOk.same (takeRelease_same _ _ w) p)
  · exact prop_ite (P := LockOk) p (LockOk.same (answerRead_same _ _ _ _ w) p)
  · exact p

theorem lock_frame (c : List Byte) {w : Work} (p : LockOk w) : LockOk (completeFrame c w) := by
  have q₁ : LockOk (setReceiver .hunt [] w) := LockOk.same (setReceiver_same _ _ w) p
  unfold completeFrame testFrame testAddresses
  dsimp only
  refine prop_ite (P := LockOk) q₁ (prop_ite (P := LockOk) (LockOk.same (countError_same _) q₁) (prop_ite (P := LockOk) q₁ ?_))
  split
  · exact (LockOk.same (countError_same _) q₁)
  · exact prop_ite (P := LockOk) (lock_duplicate q₁) (prop_ite (P := LockOk) q₁ (prop_ite (P := LockOk) q₁ (prop_ite (P := LockOk) q₁ (lock_route _ _ (LockOk.same (heard_same _ _) q₁)))))

theorem lock_collect (b : List Byte) {w : Work} (p : LockOk w) : LockOk (collect b w) :=
  prop_ite (P := LockOk) (LockOk.same (discard_same w) p) (prop_ite (P := LockOk) (lock_frame b p) (LockOk.same (setReceiver_same _ _ w) p))

theorem lock_run {f : Work → Work} {s t : State} (p : LockOk (f (Work.start s))) (run : runCommand f s = .next t) : LockOk (Work.start t) := by
  have ht : t = (finish (f (Work.start s))).toState := by
    unfold runCommand at run
    exact (Host.Outcome.next.inj run).symm
  subst ht
  have q : LockOk (finish (f (Work.start s))) := LockOk.op (finish_same _) p (fun h => h.finish)
  exact q


end Sys2Proof.Machine
end

