-- ==== Sys2Proof/Laws/Exits.lean ====
section
/-! SUPPORT. The record of the last exit (R168): what a change of state records, which cause a free choice can give, and that a command which
leaves one of the five states records it on the way. -/

set_option Elab.async false

namespace Sys2Proof.Machine

/-- The cause that a rule names is the one recorded. -/
@[simp] theorem exitCause_some (cause : ExitCause) (n : Nat) : exitCause (some cause) n = cause := rfl

/-- A change away from one of the five states records the state left, the moment and the cause named (a free one where none is); a change from
any other state keeps the record. -/
theorem changeState_lastExit (p : ConnPhase) (t : Timer) (cause : Option ExitCause) (w : Work) :
    (changeState p t cause w).conn.lastExit =
      if w.conn.phase.recordsExit then some ⟨exitCause cause w.freeCount, w.conn.phase, w.now⟩ else w.conn.lastExit := by
  rw [changeState_conn]
  rfl

@[simp] theorem changeState_phase (p : ConnPhase) (t : Timer) (cause : Option ExitCause) (w : Work) :
    (changeState p t cause w).conn.phase = p := by
  rw [changeState_conn]
  rfl

@[simp] theorem changeState_now (p : ConnPhase) (t : Timer) (cause : Option ExitCause) (w : Work) :
    (changeState p t cause w).now = w.now :=
  congrArg Prod.fst (changeState_same p t cause w .uptime (by decide))

/-- R168, R180: the end of an orderly disconnection has the cause that entered it, or DISCONNECTED. -/
theorem disconnectExit_or (cause : ExitCause) (n : Nat) :
    disconnectExit (some cause) n = cause ∨ disconnectExit (some cause) n = .disconnected := by
  unfold disconnectExit
  split
  · exact .inr rfl
  · exact .inl rfl

/-- The state is still the one with which a command of that moment began, or an exit of that moment stands recorded. -/
def ExitRecorded (start : ConnPhase) (now : Nat) (w : Work) : Prop :=
  w.now = now
    ∧ (w.conn.phase = start ∨ ∃ x, w.conn.lastExit = some x ∧ x.left.recordsExit = true ∧ x.uptime = now)

/-- From one of the five states on, every operation keeps it. -/
theorem exitRecorded_stable {start : ConnPhase} {now : Nat} (h : start.recordsExit = true) : Stable (ExitRecorded start now) where
  frame hc _ hn p := by simpa only [ExitRecorded, hc, hn] using p
  state {w} q t c p := by
    refine ⟨(changeState_now q t c w).trans p.1, .inr ?_⟩
    rw [changeState_lastExit]
    split
    · exact ⟨_, rfl, ‹_›, p.1⟩
    · rename_i hr
      exact p.2.resolve_left fun e => hr (e ▸ h)
  quiet f hp _ hx p := by simpa only [ExitRecorded, updateConn_now, updateConn_conn, hp, hx] using p
  derate _ _ _ _ p := p
  update p := p
  step p := p

end Sys2Proof.Machine
end

