-- ==== Sys2Proof/Laws/LevelRule.lean ====
section
/-! SUPPORT. The rule of a change of level: which member completes a condition (R70 to R72), what one change of level and several in a row
write (R76, R77, R83, R87, R88), and what a change of the indication set does to the level and its timers (R73, R74). -/

set_option Elab.async false

namespace Sys2Proof.Machine

/-! ## Members and conditions (R70, R71) -/

theorem partWatch_iff (set : List Indication) (i : Indication) : partWatch set i = true ↔ TakesPart .watch set i := by
  simp [partWatch, TakesPart]

/-- R70: the kinds are told apart as their numbers are. -/
theorem kind_eq (i j : Indication) : i.kind = j.kind ↔ kindOf i = kindOf j := by cases i <;> cases j <;> decide
theorem kind_smoke (i : Indication) : i.kind = .smoke ↔ kindOf i = 2 := by cases i <;> decide
theorem kind_fault (i : Indication) : i.isIndication = true ↔ kindOf i ≠ 5 := by cases i <;> decide
theorem strong_iff (i : Indication) : i.strong = true ↔ i ∈ [.smokeA, .smokeB, .gasAL2, .gasBL2] := by cases i <;> decide
theorem smoke_iff (i : Indication) : i = .smokeA ∨ i = .smokeB ↔ kindOf i = 2 := by cases i <;> decide

theorem partPre_iff (set : List Indication) (i : Indication) : partPre set i = true ↔ TakesPart .preAlarm set i := by
  simp only [partPre, TakesPart, Bool.and_eq_true, Bool.or_eq_true, decide_eq_true_eq, List.any_eq_true, ne_eq, kind_eq, kind_smoke,
    or_assoc, List.mem_cons, List.not_mem_nil, or_false]

theorem partAlarm_iff (set : List Indication) (i : Indication) : partAlarm set i = true ↔ TakesPart .alarm set i := by
  simp only [partAlarm, TakesPart, Bool.and_eq_true, Bool.or_eq_true, decide_eq_true_eq, List.any_eq_true, ne_eq, kind_eq, kind_fault,
    smoke_iff, strong_iff, or_assoc]
  constructor
  · rintro ⟨h, h' | h' | ⟨h1, j, hj, ⟨h2, h3⟩, h4⟩⟩
    · exact ⟨h, .inl h'⟩
    · exact ⟨h, .inr (.inl h')⟩
    · exact ⟨h, .inr (.inr ⟨j, hj, h3, h1, h2, h4⟩)⟩
  · rintro ⟨h, h' | h' | ⟨j, hj, h3, h1, h2, h4⟩⟩
    · exact ⟨h, .inl h'⟩
    · exact ⟨h, .inr (.inl h')⟩
    · exact ⟨h, .inr (.inr ⟨h1, j, hj, ⟨h2, h3⟩, h4⟩)⟩

/-- R71: the condition of a level is that some member takes part in it. -/
theorem TakesPart.code_le {level : HazardLevel} {set : List Indication} {i : Indication} (h : TakesPart level set i) :
    level.code ≤ (risingLevel set).code := by
  cases level <;> try exact absurd h.2 id
  · have e : watchCondition set = true := List.any_eq_true.2 ⟨i, h.1, (partWatch_iff _ _).2 h⟩
    unfold risingLevel
    rw [if_pos e]
    split
    · decide
    · split <;> decide
  · have e : preCondition set = true := List.any_eq_true.2 ⟨i, h.1, (partPre_iff _ _).2 h⟩
    unfold risingLevel
    rw [if_pos e]
    split <;> decide
  · have e : alarmCondition set = true := List.any_eq_true.2 ⟨i, h.1, (partAlarm_iff _ _).2 h⟩
    unfold risingLevel
    rw [if_pos e]

/-- R72: some member takes part in the condition of the level that a set asks for. -/
theorem risingLevel_takesPart {set : List Indication} (h : risingLevel set ≠ .clear) : ∃ i, TakesPart (risingLevel set) set i := by
  unfold risingLevel at *
  split
  · obtain ⟨i, _, hi⟩ := List.any_eq_true.1 ‹_›; exact ⟨i, (partAlarm_iff _ _).1 hi⟩
  · split
    · obtain ⟨i, _, hi⟩ := List.any_eq_true.1 ‹_›; exact ⟨i, (partPre_iff _ _).1 hi⟩
    · split
      · obtain ⟨i, _, hi⟩ := List.any_eq_true.1 ‹_›; exact ⟨i, (partWatch_iff _ _).1 hi⟩
      · simp_all

/-- R71: a member keeps its part in a set that holds every member that takes part. -/
theorem TakesPart.of_subset {level : HazardLevel} {set old : List Indication} {i : Indication} (h : TakesPart level set i)
    (sub : ∀ j, TakesPart level set j → j ∈ old) : TakesPart level old i := by
  cases level <;> try exact absurd h.2 id
  · exact ⟨sub _ h, trivial⟩
  · refine ⟨sub _ h, ?_⟩
    rcases h.2 with ⟨hi, ha, hb⟩ | hi | ⟨j, hj, hk, hs⟩
    · exact .inl ⟨hi, sub _ ⟨ha, .inl ⟨.inl rfl, ha, hb⟩⟩, sub _ ⟨hb, .inl ⟨.inr rfl, ha, hb⟩⟩⟩
    · exact .inr (.inl hi)
    · exact .inr (.inr ⟨j, sub _ ⟨hj, .inr (.inr ⟨i, h.1, hk.symm, hs.symm⟩)⟩, hk, hs⟩)
  · refine ⟨sub _ h, ?_⟩
    rcases h.2 with ⟨hi, ha, hb⟩ | hi | ⟨j, hj, hk, h1, h2, hs⟩
    · exact .inl ⟨hi, sub _ ⟨ha, .inl ⟨rfl, ha, hb⟩⟩, sub _ ⟨hb, .inl ⟨rfl, ha, hb⟩⟩⟩
    · exact .inr (.inl hi)
    · exact .inr (.inr ⟨j, sub _ ⟨hj, .inr (.inr ⟨i, h.1, hk.symm, h2, h1, hs.symm⟩)⟩, hk, h1, h2, hs⟩)

/-- R72: where a set asks for a higher level than another, a member that is new takes part in its condition. -/
theorem risingLevel_newMember {set old : List Indication} (h : (risingLevel old).code < (risingLevel set).code) :
    ∃ i, (i ∈ set ∧ i ∉ old) ∧ TakesPart (risingLevel set) set i := by
  have hc : risingLevel set ≠ .clear := by intro e; rw [e] at h; exact absurd h (Nat.not_lt_zero _)
  obtain ⟨i, hi⟩ := risingLevel_takesPart hc
  refine Classical.byContradiction fun no => Nat.not_le_of_lt h ?_
  refine (hi.of_subset fun j hj => ?_).code_le
  exact Classical.byContradiction fun hn => no ⟨j, ⟨hj.1, hn⟩, hj⟩

theorem Indication.mem_all (i : Indication) : i ∈ Indication.all := by cases i <;> decide

/-- R70: the members that take part in the condition of the level that a set asks for, in the order of their values. -/
theorem partsOf_rising {set : List Indication} (hc : risingLevel set ≠ .clear) :
    ∃ p : Indication → Bool, partsOf (risingLevel set) set = Indication.all.filter p
      ∧ ∀ i, p i = true ↔ TakesPart (risingLevel set) set i := by
  have cases : risingLevel set = .alarm ∨ risingLevel set = .preAlarm ∨ risingLevel set = .watch := by
    unfold risingLevel at *
    split
    · exact .inl rfl
    · split
      · exact .inr (.inl rfl)
      · split
        · exact .inr (.inr rfl)
        · simp_all
  rcases cases with h | h | h <;> rw [h]
  · exact ⟨_, rfl, partAlarm_iff set⟩
  · exact ⟨_, rfl, partPre_iff set⟩
  · exact ⟨_, rfl, partWatch_iff set⟩

/-- R70: the cause of a rising transition is the lowest of the members that entered and take part. -/
theorem causeOf_completes {set entered : List Indication} {old : HazardLevel} {now : Nat} (hc : risingLevel set ≠ .clear)
    (h : ∃ i ∈ entered, TakesPart (risingLevel set) set i) :
    Completes (· ∈ entered) set ⟨old, risingLevel set, causeOf (risingLevel set) set entered, now⟩ := by
  obtain ⟨p, parts, hp⟩ := partsOf_rising hc
  have mem (j) (hj : j ∈ entered) (ht : TakesPart (risingLevel set) set j) :
      j ∈ (Indication.all.filter p).filter fun i => decide (i ∈ entered) := by
    simp [List.mem_filter, j.mem_all, hp, ht, hj]
  have sorted : ((Indication.all.filter p).filter fun i => decide (i ∈ entered)).Pairwise fun a b => a.code ≤ b.code :=
    List.Pairwise.filter _ (List.Pairwise.filter _ (by decide))
  unfold Completes causeOf
  dsimp only
  rw [parts]
  split
  · rename_i i rest e
    rw [e] at mem sorted
    have hi : i ∈ (Indication.all.filter p).filter fun i => decide (i ∈ entered) := by rw [e]; exact List.mem_cons_self
    simp only [List.mem_filter, decide_eq_true_eq] at hi
    refine ⟨i, rfl, hi.2, (hp i).1 hi.1.2, fun j hj ht => ?_⟩
    rcases List.mem_cons.1 (mem j hj ht) with rfl | hr
    · exact Nat.le_refl _
    · exact (List.pairwise_cons.1 sorted).1 j hr
  · rename_i e
    obtain ⟨j, hj, ht⟩ := h
    have := mem j hj ht
    rw [e] at this
    cases this

/-! ## One change of level -/

/-- R77, R129: the urgent slot after a change of level. -/
theorem changeLevel_slot (new : HazardLevel) (c : Cause) (w : Work) : (changeLevel new c w).line.slot =
    (let frame : HazardFrame := ⟨new, w.hazard.set, episodeCause w.hazard.level new c w.hazard.firstCause,
        if new = .alarm then w.loader.cfg.releaseTime else 0⟩
     if w.line.sendingClass = some .urgent then (w.line.urgent, some frame, w.line.sendingClass)
     else (some frame, w.line.urgentNext, w.line.sendingClass)) := by
  unfold changeLevel
  dsimp only
  have e (ms : Nat) : countdownSeconds (ms * 1000) = ms := by unfold countdownSeconds; omega
  rw [(reportLevel_same _ _) .urgent (by decide), placeHazard_slot]
  split <;> simp [hazardFrameOf, requestLockout, HazardState.changed, e]

/-- R76, R83: the write store after a change of level. -/
theorem changeLevel_writeStore (new : HazardLevel) (c : Cause) (w : Work) : (changeLevel new c w).loader.writeStore =
    if new.writesLockout then some ⟨some new, episodeCause w.hazard.level new c w.hazard.firstCause, w.now⟩
    else w.loader.writeStore := by
  unfold changeLevel
  dsimp only
  rw [(reportLevel_same _ _) .request (by decide), (placeHazard_same _ _) .request (by decide)]
  split <;> rfl

/-! ## Some changes of level, one after the other -/

/-- What some changes of level, the oldest first, bring about: what `State.LevelMoved` says of a whole command, and what lets one run of
changes follow another. `set`: the indication set at the changes, where it is known. -/
structure Moves (set : Option (List Indication)) (w w' : Work) (es : List HistoryEntry) : Prop where
  moved : w.toState.LevelMoved w'.toState es set
  still : es = [] → w'.hazard.countdown = w.hazard.countdown ∧ w'.hazard.release = w.hazard.release
    ∧ w'.hazard.confirm = w.hazard.confirm ∧ w'.line.slot = w.line.slot
    ∧ (w'.hazard.level.writesLockout = true → w'.loader.writeStore = w.loader.writeStore ∧ w'.hazard.retry = w.hazard.retry
        ∧ w'.hazard.retryContent = w.hazard.retryContent)
  sending : w'.line.sendingClass = w.line.sendingClass
  now : w'.loader.uptime = w.loader.uptime
  cfg : w'.loader.cfg = w.loader.cfg

/-- What some changes of level bring about beyond that where the key is not turned: the first-cause records, and no lockout write but that of
an entry into ALARM or above. -/
structure Latches (set : Option (List Indication)) (tMax : Option TempAt) (w w' : Work) (es : List HistoryEntry) : Prop where
  pre : FirstCauseLatched .preAlarm w.hazard.firstPre w'.hazard.firstPre es set tMax w.loader.uptime
  alarm : FirstCauseLatched .alarm w.hazard.firstAlarm w'.hazard.firstAlarm es set tMax w.loader.uptime
  silent : (∀ e ∈ es, e.new.isAlarm = false) → w'.loader.writeStore = w.loader.writeStore
  now : w'.loader.uptime = w.loader.uptime

theorem sendingClass_iff (l : LineState) : (l.tx = .sending ∧ l.inHand = some .urgent) ↔ l.sendingClass = some .urgent := by
  unfold LineState.sendingClass
  split <;> simp_all

theorem changeLevel_moves (new : HazardLevel) (c : Cause) (w : Work) (h : new ≠ w.hazard.level) (hl : new ≠ .lockout) :
    Moves (some w.hazard.set) w (changeLevel new c w) [⟨w.hazard.level, new, c, w.now⟩] := by
  have slot := changeLevel_slot new c w
  have store := changeLevel_writeStore new c w
  have hazard := changeLevel_hazard new c w
  have cfg : (changeLevel new c w).loader.fixed = w.loader.fixed := (changeLevel_same new c w) .config (by decide)
  have clock : (changeLevel new c w).loader.clock = w.loader.clock := (changeLevel_same new c w) .uptime (by decide)
  generalize changeLevel new c w = t at *
  have sending : t.line.sendingClass = w.line.sendingClass := by
    have := congrArg (·.2.2) slot
    dsimp only [LineState.slot] at this
    rw [this]; split <;> rfl
  refine ⟨⟨?_, ?_, ?_, fun _ => ?_, fun _ => ?_, fun _ hw => ?_⟩, fun e => ?_, sending, congrArg (·.1) clock, congrArg (·.2.2.2.2) cfg⟩
  · refine ⟨rfl, h, rfl, ?_⟩
    show t.hazard.level = new
    rw [hazard]; dsimp only; split <;> rfl
  · show t.hazard.history = _
    rw [hazard]; dsimp only [historyAfter, List.foldl, HazardState.dropRetry, HazardState.changed, appendHistory]
    split <;> (dsimp only; split <;> rfl)
  · show t.hazard.firstCause = _
    rw [hazard]; dsimp only [episodeAfter, List.foldl, HazardState.dropRetry, HazardState.changed, episodeCause]
    simp only [hl, ne_eq, not_false_eq_true, and_true]
    split <;> rfl
  · show t.hazard.countdown = _ ∧ t.hazard.release = decide (t.hazard.level = _) ∧ t.hazard.confirm = if t.hazard.level = _ then _ else _
    rw [hazard]; dsimp only [HazardState.dropRetry, HazardState.changed]
    split <;> exact ⟨rfl, rfl, rfl⟩
  · have lvl : t.hazard.level = new := by rw [hazard]; dsimp only; split <;> rfl
    have fc : t.hazard.firstCause = episodeCause w.hazard.level new c w.hazard.firstCause := by
      rw [hazard]; dsimp only; split <;> rfl
    refine ⟨w.hazard.set, ?_, fun y hy => Option.some.inj hy⟩
    show (if w.line.tx = .sending ∧ w.line.inHand = some .urgent then t.line.urgentNext else t.line.urgent)
      = some ⟨t.hazard.level, _, t.hazard.firstCause, if t.hazard.level = .alarm then w.loader.cfg.releaseTime else 0⟩
    rw [lvl, fc]
    simp only [sendingClass_iff]
    split <;> rename_i hs <;> simp only [hs, if_true, if_false] at slot
    · exact congrArg (·.2.1) slot
    · exact congrArg (·.1) slot
  · have lvl : t.hazard.level = new := by rw [hazard]; dsimp only; split <;> rfl
    have hw' : new.writesLockout = true := by
      unfold HazardLevel.writesLockout; rw [decide_eq_true_eq, ← lvl]; exact hw
    have fc : t.hazard.firstCause = episodeCause w.hazard.level new c w.hazard.firstCause := by
      rw [hazard]; dsimp only; split <;> rfl
    show t.loader.writeStore = some ⟨some t.hazard.level, t.hazard.firstCause, w.loader.uptime⟩
      ∧ t.hazard.retry = none ∧ t.hazard.retryContent = none
    rw [lvl, fc, store, if_pos hw', hazard, if_pos hw']
    exact ⟨rfl, rfl, rfl⟩
  · cases e

theorem changeLevel_latches (new : HazardLevel) (c : Cause) (w : Work) :
    Latches (some w.hazard.set) (w.scan.summary.bind (·.tMax)) w (changeLevel new c w) [⟨w.hazard.level, new, c, w.now⟩] := by
  have store := changeLevel_writeStore new c w
  have hazard := changeLevel_hazard new c w
  have clock : (changeLevel new c w).loader.clock = w.loader.clock := (changeLevel_same new c w) .uptime (by decide)
  generalize changeLevel new c w = t at *
  have pre : t.hazard.firstPre = if new = .preAlarm then latch w.hazard.firstPre (firstCauseOf w c) else w.hazard.firstPre := by
    rw [hazard]; dsimp only; split <;> rfl
  have alarm : t.hazard.firstAlarm = if new = .alarm then latch w.hazard.firstAlarm (firstCauseOf w c) else w.hazard.firstAlarm := by
    rw [hazard]; dsimp only; split <;> rfl
  have each (l : HazardLevel) (old r : Option FirstCause) (h : r = if new = l then latch old (firstCauseOf w c) else old) :
      FirstCauseLatched l old r [⟨w.hazard.level, new, c, w.now⟩] (some w.hazard.set) (w.scan.summary.bind (·.tMax)) w.loader.uptime := by
    subst h
    refine ⟨?_, ?_⟩
    · rintro (h | h)
      · split
        · obtain ⟨x, rfl⟩ := Option.ne_none_iff_exists'.1 h; rfl
        · rfl
      · rw [if_neg (h _ List.mem_cons_self)]
    · rintro e he hn rfl
      obtain rfl := List.mem_singleton.1 he
      dsimp only at hn
      rw [if_pos hn]
      exact ⟨_, rfl, rfl, rfl, rfl, fun x hx => Option.some.inj hx⟩
  refine ⟨each _ _ _ pre, each _ _ _ alarm, fun h => ?_, congrArg (·.1) clock⟩
  rw [store, if_neg]
  have k : new.isAlarm = false := h _ List.mem_cons_self
  revert k; clear * -; cases new <;> decide

theorem LevelChain.append {now : Nat} : ∀ {es es' : List HistoryEntry} {a b c : HazardLevel},
    LevelChain now a es b → LevelChain now b es' c → LevelChain now a (es ++ es') c
  | [], _, _, _, _, h, h' => by obtain rfl : _ = _ := h; exact h'
  | _ :: _, _, _, _, _, ⟨h1, h2, h3, h4⟩, h' => ⟨h1, h2, h3, h4.append h'⟩

theorem Moves.append {set : Option (List Indication)} {w w' w'' : Work} {es es' : List HistoryEntry}
    (h : Moves set w w' es) (h' : Moves set w' w'' es') : Moves set w w'' (es ++ es') := by
  refine ⟨⟨?_, ?_, ?_, fun ne => ?_, fun ne => ?_, fun ne hw => ?_⟩, fun e => ?_, h'.sending.trans h.sending, h'.now.trans h.now,
    h'.cfg.trans h.cfg⟩
  · have := h'.moved.chain
    rw [h.now] at this
    exact h.moved.chain.append this
  · rw [h'.moved.history, h.moved.history]; exact (List.foldl_append ..).symm
  · rw [h'.moved.episode, h.moved.episode]; exact (List.foldl_append ..).symm
  · by_cases e : es' = []
    · subst e
      rw [List.append_nil] at ne
      obtain ⟨a, b, c, -⟩ := h'.still rfl
      have lvl : w''.hazard.level = w'.hazard.level := h'.moved.chain
      have := h.moved.outputs ne
      rw [a, b, c, lvl]; exact this
    · have := h'.moved.outputs e
      rw [h.cfg] at this; exact this
  · by_cases e : es' = []
    · subst e
      rw [List.append_nil] at ne
      obtain ⟨-, -, -, d, -⟩ := h'.still rfl
      have lvl : w''.hazard.level = w'.hazard.level := h'.moved.chain
      have fc : w''.hazard.firstCause = w'.hazard.firstCause := h'.moved.episode
      have u : w''.line.urgent = w'.line.urgent := congrArg (·.1) d
      have un : w''.line.urgentNext = w'.line.urgentNext := congrArg (·.2.1) d
      have := h.moved.frame ne
      rw [u, un, lvl, fc]; exact this
    · have := h'.moved.frame e
      simp only [sendingClass_iff, h.sending, h.cfg] at *
      exact this
  · by_cases e : es' = []
    · subst e
      rw [List.append_nil] at ne
      obtain ⟨-, -, -, -, k⟩ := h'.still rfl
      have lvl : w''.hazard.level = w'.hazard.level := h'.moved.chain
      have fc : w''.hazard.firstCause = w'.hazard.firstCause := h'.moved.episode
      have hw' : w''.hazard.level.writesLockout = true := decide_eq_true hw
      obtain ⟨k1, k2, k3⟩ := k hw'
      rw [lvl] at hw
      have := h.moved.write ne hw
      rw [k1, k2, k3, lvl, fc]; exact this
    · have := h'.moved.write e hw
      rw [h.now] at this; exact this
  · obtain ⟨rfl, rfl⟩ := List.append_eq_nil_iff.1 e
    obtain ⟨a, b, c, d, k⟩ := h.still rfl
    obtain ⟨a', b', c', d', k'⟩ := h'.still rfl
    have lvl : w''.hazard.level = w'.hazard.level := h'.moved.chain
    refine ⟨a'.trans a, b'.trans b, c'.trans c, d'.trans d, fun hw => ?_⟩
    obtain ⟨x, y, z⟩ := k' hw
    obtain ⟨x', y', z'⟩ := k (lvl ▸ hw)
    exact ⟨x.trans x', y.trans y', z.trans z'⟩

theorem FirstCauseLatched.append {level : HazardLevel} {a b c : Option FirstCause} {es es' : List HistoryEntry}
    {set : Option (List Indication)} {tMax : Option TempAt} {now : Nat}
    (h : FirstCauseLatched level a b es set tMax now) (h' : FirstCauseLatched level b c es' set tMax now)
    (once : ∀ e ∈ es, ∀ e' ∈ es', e.new ≠ e'.new) : FirstCauseLatched level a c (es ++ es') set tMax now := by
  refine ⟨?_, ?_⟩
  · rintro (ha | hn)
    · have hb := h.kept (.inl ha)
      exact (h'.kept (.inl (hb ▸ ha))).trans hb
    · exact (h'.kept (.inr fun e he => hn e (List.mem_append_right _ he))).trans (h.kept (.inr fun e he => hn e (List.mem_append_left _ he)))
  · intro e he hl ha
    rcases List.mem_append.1 he with he | he
    · obtain ⟨r, hr, p⟩ := h.latched e he hl ha
      refine ⟨r, ?_, p⟩
      rw [h'.kept (.inl (by rw [hr]; exact Option.some_ne_none r)), hr]
    · have hb : b = a := h.kept (.inr fun e' he' hl' => once e' he' e he (hl'.trans hl.symm))
      exact h'.latched e he hl (hb.trans ha)

theorem Latches.append {set : Option (List Indication)} {tMax : Option TempAt} {w w' w'' : Work} {es es' : List HistoryEntry}
    (h : Latches set tMax w w' es) (h' : Latches set tMax w' w'' es') (once : ∀ e ∈ es, ∀ e' ∈ es', e.new ≠ e'.new) :
    Latches set tMax w w'' (es ++ es') := by
  obtain ⟨p, a, s, n⟩ := h
  obtain ⟨p', a', s', n'⟩ := h'
  rw [n] at p' a'
  exact ⟨p.append p' once, a.append a' once,
    fun k => (s' fun e he => k e (List.mem_append_right _ he)).trans (s fun e he => k e (List.mem_append_left _ he)), n'.trans n⟩

/-- Nothing of the level changes; the write store may, where the level is one that writes none. -/
theorem Moves.nil (set : Option (List Indication)) {w w' : Work} (level : w'.hazard.level = w.hazard.level)
    (history : w'.hazard.history = w.hazard.history) (cause : w'.hazard.firstCause = w.hazard.firstCause)
    (outputs : w'.hazard.countdown = w.hazard.countdown ∧ w'.hazard.release = w.hazard.release ∧ w'.hazard.confirm = w.hazard.confirm)
    (slot : w'.line.slot = w.line.slot)
    (write : w'.hazard.level.writesLockout = true → w'.loader.writeStore = w.loader.writeStore ∧ w'.hazard.retry = w.hazard.retry
        ∧ w'.hazard.retryContent = w.hazard.retryContent)
    (now : w'.loader.uptime = w.loader.uptime) (cfg : w'.loader.cfg = w.loader.cfg) : Moves set w w' [] :=
  ⟨⟨level, history, cause, fun h => absurd rfl h, fun h => absurd rfl h, fun h => absurd rfl h⟩,
    fun _ => ⟨outputs.1, outputs.2.1, outputs.2.2, slot, write⟩, congrArg (·.2.2) slot, now, cfg⟩

/-- The fields of the hazard unit that a change of level writes. -/
def HazardState.entry (h : HazardState) : HazardLevel × Cause × List HistoryEntry × (Option FirstCause × Option FirstCause)
    × (Nat × Bool × Timer) × Timer × Option LockoutContent :=
  (h.level, h.firstCause, h.history, (h.firstPre, h.firstAlarm), (h.countdown, h.release, h.confirm), h.retry, h.retryContent)

/-- Nothing that a change of level writes has changed. -/
structure Still (w w' : Work) : Prop where
  entry : w'.hazard.entry = w.hazard.entry
  slot : w'.line.slot = w.line.slot
  write : w'.loader.writeStore = w.loader.writeStore
  now : w'.loader.uptime = w.loader.uptime
  cfg : w'.loader.cfg = w.loader.cfg

theorem Still.moves {w w' : Work} (h : Still w w') (set : Option (List Indication)) : Moves set w w' [] := by
  obtain ⟨e, sl, wr, n, c⟩ := h
  simp only [HazardState.entry, Prod.mk.injEq] at e
  obtain ⟨e1, e2, e3, ⟨-, -⟩, ⟨e4, e5, e6⟩, e7, e8⟩ := e
  exact .nil set e1 e3 e2 ⟨e4, e5, e6⟩ sl (fun _ => ⟨wr, e7, e8⟩) n c

theorem Still.latches {w w' : Work} (h : Still w w') (set : Option (List Indication)) (tMax : Option TempAt) :
    Latches set tMax w w' [] := by
  obtain ⟨e, -, wr, n, -⟩ := h
  simp only [HazardState.entry, Prod.mk.injEq] at e
  exact ⟨⟨fun _ => e.2.2.2.1.1, fun _ h => by cases h⟩, ⟨fun _ => e.2.2.2.1.2, fun _ h => by cases h⟩, fun _ => wr, n⟩

theorem Still.trans {w w' w'' : Work} (h : Still w w') (h' : Still w' w'') : Still w w'' :=
  ⟨h'.1.trans h.1, h'.2.trans h.2, h'.3.trans h.3, h'.4.trans h.4, h'.5.trans h.5⟩

/-- An operation that leaves those fields, the urgent slot and the write store alone. -/
theorem Same.still {K : List Block} {w w' : Work} (h : Same K w w') (entry : w'.hazard.entry = w.hazard.entry)
    (k2 : Block.urgent ∉ K := by decide) (k3 : Block.request ∉ K := by decide)
    (k4 : Block.uptime ∉ K := by decide) (k5 : Block.config ∉ K := by decide) : Still w w' :=
  ⟨entry, h .urgent k2, h .request k3, congrArg (·.1) (h .uptime k4), congrArg (·.2.2.2.2) (h .config k5)⟩

theorem Same.entry {K : List Block} {w w' : Work} (h : Same K w w') (k : Block.hazard ∉ K := by decide) :
    w'.hazard.entry = w.hazard.entry := congrArg HazardState.entry (h .hazard k)

/-! ## A change of the indication set -/

/-- The hazard unit after a change of the set that does not raise the level (R73, R74). -/
def HazardState.withSet (h : HazardState) (set : List Indication) : HazardState := ({ h with set := set } : HazardState).preTimers.quietTimer

/-- What `withSet` leaves. -/
theorem withSet_kept (h : HazardState) (l : List Indication) :
    (h.withSet l).set = l ∧ (h.withSet l).level = h.level ∧ (h.withSet l).evaluated = h.evaluated
      ∧ (h.withSet l).entry = h.entry := by
  unfold HazardState.withSet HazardState.quietTimer HazardState.preTimers HazardState.entry
  split <;> split <;> (try split) <;> simp_all

theorem withSet_timers (h : HazardState) (l : List Indication) : h.TimersAfter (h.withSet l) [] := by
  refine ⟨fun ne => absurd rfl ne, fun _ hl => ?_, fun _ hl => ?_⟩
  · obtain ⟨hs, hv, -⟩ := withSet_kept h l
    rw [hv] at hl
    rw [hs]
    refine ⟨fun hp => ?_, fun hp => ?_⟩ <;>
    · simp [HazardState.withSet, HazardState.quietTimer, HazardState.preTimers, hl, hp]
  · obtain ⟨hs, hv, -⟩ := withSet_kept h l
    rw [hv] at hl
    rw [hs]
    simp [HazardState.withSet, HazardState.quietTimer, HazardState.preTimers, hl]

theorem withSet_follows (h : HazardState) (l : List Indication) (f : h.LevelTimersFollow)
    (risen : h.evaluated = true → h.level.isAlarm = false → (risingLevel l).code ≤ h.level.code) : (h.withSet l).LevelTimersFollow := by
  obtain ⟨hs, hv, he, -⟩ := withSet_kept h l
  obtain ⟨-, f1, f2, f3⟩ := f
  refine ⟨?_, ?_, ?_, ?_⟩
  · rw [hs, hv, he]; exact risen
  all_goals
    rw [hs, hv]
    cases hl : h.level <;> rw [hl] at f1 f2 f3 <;> cases hp : preCondition l <;>
      simp_all [HazardState.withSet, HazardState.quietTimer, HazardState.preTimers] <;> (try split) <;> simp_all

theorem changed_follows (h : HazardState) (new : HazardLevel) (c : Cause) (r : FirstCause) (ms now : Nat)
    (risen : h.evaluated = true → new.isAlarm = false → (risingLevel h.set).code ≤ new.code)
    (pre : new = .preAlarm → preCondition h.set = true) : (h.changed new c r ms now).LevelTimersFollow := by
  refine ⟨risen, ?_, ?_, ?_⟩ <;> simp only [HazardState.changed] <;> cases new <;> simp_all

theorem TimersFollow_dropRetry {h : HazardState} (f : h.LevelTimersFollow) : h.dropRetry.LevelTimersFollow := ⟨f.1, f.2, f.3, f.4⟩

theorem changeLevel_follows (new : HazardLevel) (c : Cause) (w : Work)
    (risen : w.hazard.evaluated = true → new.isAlarm = false → (risingLevel w.hazard.set).code ≤ new.code)
    (pre : new = .preAlarm → preCondition w.hazard.set = true) : (changeLevel new c w).hazard.LevelTimersFollow := by
  rw [changeLevel_hazard]
  dsimp only
  split
  · exact TimersFollow_dropRetry (changed_follows _ _ _ _ _ _ risen pre)
  · exact changed_follows _ _ _ _ _ _ risen pre

/-- An entry into a level starts its own timers (R73, R74). -/
theorem changeLevel_timers (old : HazardState) (new : HazardLevel) (c : Cause) (w : Work) {es : List HistoryEntry} (ne : es ≠ []) :
    old.TimersAfter (changeLevel new c w).hazard es := by
  refine ⟨fun _ => ?_, fun e => absurd e ne, fun e => absurd e ne⟩
  rw [changeLevel_hazard]
  dsimp only
  split <;> exact ⟨rfl, rfl, rfl⟩

/-- What a change of the indication set does to the level (R70 to R74). -/
structure SetMoved (l : List Indication) (w w' : Work) (es : List HistoryEntry) : Prop where
  cause : es = [] ∨ ∃ e, es = [e] ∧ Completes (fun i => i ∈ l ∧ i ∉ w.hazard.set) l e
  moves : Moves (some l) w w' es
  latches : Latches (some l) (w.scan.summary.bind (·.tMax)) w w' es
  timers : w.hazard.TimersAfter w'.hazard es
  follows : w'.hazard.LevelTimersFollow
  rises : ∀ e ∈ es, w.hazard.level.code < e.new.code ∧ e.new = w'.hazard.level

/-- The set has changed; the level has not yet. -/
def takeSet (l : List Indication) (w : Work) : Work :=
  updateHazard (fun h => h.preTimers.quietTimer) (thermalHazardReport (updateHazard (fun h => { h with set := l }) w))

theorem takeSet_hazard (l : List Indication) (w : Work) : (takeSet l w).hazard = w.hazard.withSet l := by
  unfold takeSet; simp [thermalHazardReport_hazard, HazardState.withSet]

theorem takeSet_same (l : List Indication) (w : Work) :
    Same [.hazard, .level, .course, .latches, .thermal, .conn, .limit, .line, .permit, .notices] w (takeSet l w) :=
  (updateHazard_any _ w).comp ((thermalHazardReport_same _).comp (updateHazard_any _ _)
    (K := [.hazard, .level, .course, .latches, .thermal, .conn, .limit, .line, .permit, .notices]))

theorem takeSet_still (l : List Indication) (w : Work) : Still w (takeSet l w) :=
  (takeSet_same l w).still (by rw [takeSet_hazard, (withSet_kept _ _).2.2.2])

/-- The rising transitions (R72) after what has changed the set or made the first evaluation. -/
theorem applyRising_cases (entered : List Indication) (w : Work) :
    (applyRising entered w = w
        ∧ (w.hazard.evaluated = true → w.hazard.level.isAlarm = false → (risingLevel w.hazard.set).code ≤ w.hazard.level.code))
      ∨ (applyRising entered w = changeLevel (risingLevel w.hazard.set) (causeOf (risingLevel w.hazard.set) w.hazard.set entered) w
          ∧ w.hazard.evaluated = true ∧ w.hazard.level.isAlarm = false ∧ w.hazard.level.code < (risingLevel w.hazard.set).code) := by
  unfold applyRising
  dsimp only
  split
  · rename_i h
    simp only [Bool.and_eq_true, Bool.not_eq_true', decide_eq_true_eq] at h
    exact .inr ⟨rfl, h.1.1, h.1.2, h.2⟩
  · rename_i h
    simp only [Bool.and_eq_true, Bool.not_eq_true', decide_eq_true_eq, not_and, Nat.not_lt] at h
    exact .inl ⟨rfl, fun a b => h ⟨a, b⟩⟩

theorem risingLevel_pre {set : List Indication} (h : risingLevel set = .preAlarm) : preCondition set = true := by
  unfold risingLevel at h
  split at h
  · cases h
  · split at h
    · assumption
    · split at h <;> cases h

theorem risingLevel_not_lockout (set : List Indication) : risingLevel set ≠ .lockout := by
  unfold risingLevel
  split
  · decide
  · split
    · decide
    · split <;> decide

theorem changeSet_moved (l : List Indication) {w : Work} (f : w.hazard.LevelTimersFollow) :
    ∃ es, SetMoved l w (changeSet l w) es := by
  by_cases same : l = w.hazard.set
  · have e : changeSet l w = w := by unfold changeSet; rw [if_pos same]
    rw [e]
    refine ⟨[], .inl rfl, ((Same.refl [] w).still rfl).moves _, ((Same.refl [] w).still rfl).latches _ _, ?_, f, by simp⟩
    refine ⟨fun ne => absurd rfl ne, fun _ hl => ⟨fun hp => ?_, fun hp => ?_⟩, fun _ hl => ?_⟩
    · have := f.escalation; have := f.fallBack
      constructor
      · simp_all
      · split <;> simp_all
    · have := f.escalation; have := f.fallBack
      constructor
      · simp_all
      · split <;> simp_all
    · have := f.quiet
      split
      · split <;> simp_all
      · simp_all
  · have e : changeSet l w = applyRising (l.filter fun i => decide (i ∉ w.hazard.set)) (takeSet l w) := by
      unfold changeSet; rw [if_neg same]; rfl
    obtain ⟨hs, hv, he, -⟩ := withSet_kept w.hazard l
    rw [e]
    have M := (takeSet_still l w).moves (some l)
    have L := (takeSet_still l w).latches (some l) (w.scan.summary.bind (·.tMax))
    have hz := takeSet_hazard l w
    have scan : (takeSet l w).scan = w.scan := takeSet_same l w .scan (by decide)
    generalize takeSet l w = x at M L hz scan
    rw [← hz] at hs hv he
    rcases applyRising_cases (l.filter fun i => decide (i ∉ w.hazard.set)) x with ⟨a, low⟩ | ⟨a, ev, na, lt⟩ <;> rw [a] <;> clear a e
    · rw [hs, hv, he] at low
      refine ⟨[], .inl rfl, M, L, ?_, ?_, by simp⟩
      · rw [hz]; exact withSet_timers _ _
      · rw [hz]; exact withSet_follows _ _ f low
    · have ne : risingLevel l ≠ .clear := by
        rw [hs] at lt; intro e; rw [e] at lt; exact absurd lt (Nat.not_lt_zero _)
      rw [hs] at lt ⊢
      generalize hc : causeOf (risingLevel l) l (l.filter fun i => decide (i ∉ w.hazard.set)) = c
      have M' := changeLevel_moves (risingLevel l) c x (fun e => by rw [← e] at lt; exact absurd lt (Nat.lt_irrefl _))
        (risingLevel_not_lockout _)
      have L' := changeLevel_latches (risingLevel l) c x
      rw [hs] at M' L'
      rw [scan] at L'
      have low := f.risen (he ▸ ev) (hv ▸ na)
      have T := changeLevel_timers w.hazard (risingLevel l) c x (List.cons_ne_nil (⟨x.hazard.level, risingLevel l, c, x.now⟩ : HistoryEntry) [])
      refine ⟨_, .inr ⟨_, rfl, ?_⟩, M.append M', L.append L' (by simp), T,
        changeLevel_follows _ _ _ (fun _ _ => by rw [hs]) (fun h => by rw [hs]; exact risingLevel_pre h), ?_⟩
      · have new := risingLevel_newMember (Nat.lt_of_le_of_lt low (hv ▸ lt))
        have := causeOf_completes (old := x.hazard.level) (now := x.now) (set := l)
          (entered := l.filter fun i => decide (i ∉ w.hazard.set)) ne (by simpa [List.mem_filter] using new)
        rw [hc] at this
        simpa only [List.mem_filter, decide_eq_true_eq] using this
      · intro e he
        obtain rfl := List.mem_singleton.1 he
        exact ⟨hv ▸ lt, (changeLevel_level _ _ _).symm⟩

end Sys2Proof.Machine
end

