-- ==== Sys2Proof/Laws/LevelEvents.lean ====
section
/-! SUPPORT. What each event that can move the level does to it: the reports of the detectors, the timers of the levels, DISCHARGED, the
first evaluation, the countdown's end, maintenance clear and a gas loop's supervision. -/

set_option Elab.async false

namespace Sys2Proof.Machine

/-! ## What a detector's report does -/

/-- R73, R74: the level, the set and the timers that follow them. -/
def HazardState.timerView (h : HazardState) : HazardLevel × List Indication × Bool × Timer × Timer × Timer :=
  (h.level, h.set, h.evaluated, h.escalation, h.fallBack, h.quiet)

theorem HazardState.LevelTimersFollow.of_view {h h' : HazardState} (e : h'.timerView = h.timerView) (f : h.LevelTimersFollow) :
    h'.LevelTimersFollow := by
  simp only [HazardState.timerView, Prod.mk.injEq] at e
  obtain ⟨e1, e2, e3, e4, e5, e6⟩ := e
  exact ⟨by rw [e1, e2, e3]; exact f.1, by rw [e1, e2, e4]; exact f.2, by rw [e1, e2, e5]; exact f.3, by rw [e1, e2, e6]; exact f.4⟩

theorem HazardState.TimersAfter.of_view {a b a' b' : HazardState} {es : List HistoryEntry} (ha : a'.timerView = a.timerView)
    (hb : b'.timerView = b.timerView) (t : a.TimersAfter b es) : a'.TimersAfter b' es := by
  simp only [HazardState.timerView, Prod.mk.injEq] at ha hb
  obtain ⟨-, -, -, a4, a5, a6⟩ := ha
  obtain ⟨b1, b2, -, b4, b5, b6⟩ := hb
  refine ⟨?_, ?_, ?_⟩
  · rw [b1, b2, b4, b5, b6]; exact t.1
  · rw [b1, b2, b4, b5, a4, a5]; exact t.2
  · rw [b1, b2, b6, a6]; exact t.3

/-- Without an event the timers stand as the level and the set say. -/
theorem HazardState.LevelTimersFollow.timers {h : HazardState} (f : h.LevelTimersFollow) : h.TimersAfter h [] := by
  refine ⟨fun ne => absurd rfl ne, fun _ hl => ⟨fun hp => ?_, fun hp => ?_⟩, fun _ hl => ?_⟩
  · have := f.escalation; have := f.fallBack
    constructor
    · simp_all
    · split <;> simp_all
  · have := f.escalation; have := f.fallBack
    constructor
    · simp_all
    · split <;> simp_all
  · have := f.quiet
    split
    · split <;> simp_all
    · simp_all

/-- What a command's changes of level bring about, the key's turn apart. -/
structure LevelEffect (w w' : Work) (es : List HistoryEntry) : Prop where
  moves : Moves (some w'.hazard.set) w w' es
  latches : Latches (some w'.hazard.set) (w'.scan.summary.bind (·.tMax)) w w' es
  timers : w.hazard.TimersAfter w'.hazard es
  follows : w'.hazard.LevelTimersFollow

theorem LevelEffect.still {w w' : Work} (h : Still w w') (v : w'.hazard.timerView = w.hazard.timerView) (f : w.hazard.LevelTimersFollow) :
    LevelEffect w w' [] := ⟨h.moves _, h.latches _ _, f.timers.of_view rfl v, f.of_view v⟩

/-- What comes before the event changes nothing of the level. -/
theorem LevelEffect.before {w w' w'' : Work} {es : List HistoryEntry} (h : Still w w') (v : w'.hazard.timerView = w.hazard.timerView)
    (d : LevelEffect w' w'' es) : LevelEffect w w'' es :=
  ⟨(h.moves _).append d.moves, (h.latches _ _).append d.latches (by simp), d.timers.of_view v.symm rfl, d.follows⟩

/-- What comes after it neither. -/
theorem LevelEffect.after {w w' w'' : Work} {es : List HistoryEntry} (d : LevelEffect w w' es) (h : Still w' w'')
    (v : w''.hazard.timerView = w'.hazard.timerView) (scan : w''.scan.summary = w'.scan.summary) : LevelEffect w w'' es := by
  have hs : w''.hazard.set = w'.hazard.set := congrArg (·.2.1) v
  have m := d.moves.append (h.moves (some w'.hazard.set))
  have l := d.latches.append (h.latches (some w'.hazard.set) (w'.scan.summary.bind (·.tMax))) (by simp)
  rw [List.append_nil] at m l
  exact ⟨by rw [hs]; exact m, by rw [hs, scan]; exact l, d.timers.of_view rfl v, d.follows.of_view v⟩

/-- What a report of one detector does: the set changes once, and the level rises at most once (R70 to R74). -/
structure Detects (w w' : Work) (es : List HistoryEntry) : Prop extends LevelEffect w w' es where
  cause : w.toState.DetectorRaises w'.toState es

theorem Detects.still {w w' : Work} (h : Still w w') (v : w'.hazard.timerView = w.hazard.timerView) (f : w.hazard.LevelTimersFollow) :
    Detects w w' [] := ⟨.still h v f, .inl rfl⟩

theorem Detects.ofMoved {l : List Indication} {w : Work} {es : List HistoryEntry} (m : SetMoved l w (changeSet l w) es) :
    Detects w (changeSet l w) es := by
  have hs := changeSet_set l w
  have scan : (changeSet l w).scan = w.scan := changeSet_same l w .scan (by decide)
  refine ⟨⟨?_, ?_, m.timers, m.follows⟩, ?_⟩
  · rw [hs]; exact m.moves
  · rw [hs, scan]; exact m.latches
  · show es = [] ∨ ∃ e, es = [e] ∧ Completes (fun i => i ∈ (changeSet l w).hazard.set ∧ i ∉ w.hazard.set) (changeSet l w).hazard.set e
    rw [hs]; exact m.cause

theorem Detects.set (l : List Indication) {w : Work} (f : w.hazard.LevelTimersFollow) : ∃ es, Detects w (changeSet l w) es := by
  obtain ⟨es, m⟩ := changeSet_moved l f
  exact ⟨es, .ofMoved m⟩

theorem Detects.before {w w' w'' : Work} {es : List HistoryEntry} (h : Still w w') (v : w'.hazard.timerView = w.hazard.timerView)
    (d : Detects w' w'' es) : Detects w w'' es := by
  have hs : w'.hazard.set = w.hazard.set := congrArg (·.2.1) v
  refine ⟨.before h v d.toLevelEffect, ?_⟩
  show es = [] ∨ ∃ e, es = [e] ∧ Completes (fun i => i ∈ w''.hazard.set ∧ i ∉ w.hazard.set) w''.hazard.set e
  rw [← hs]; exact d.cause

theorem Detects.after {w w' w'' : Work} {es : List HistoryEntry} (d : Detects w w' es) (h : Still w' w'')
    (v : w''.hazard.timerView = w'.hazard.timerView) (scan : w''.scan.summary = w'.scan.summary) : Detects w w'' es := by
  have hs : w''.hazard.set = w'.hazard.set := congrArg (·.2.1) v
  refine ⟨d.toLevelEffect.after h v scan, ?_⟩
  show es = [] ∨ ∃ e, es = [e] ∧ Completes (fun i => i ∈ w''.hazard.set ∧ i ∉ w.hazard.set) w''.hazard.set e
  rw [hs]; exact d.cause

theorem Same.timerView {K : List Block} {w w' : Work} (h : Same K w w') (k : Block.hazard ∉ K := by decide) :
    w'.hazard.timerView = w.hazard.timerView := congrArg HazardState.timerView (h .hazard k)

/-- An operation of another unit before the report. -/
theorem Detects.beforeSame {K : List Block} {w w' w'' : Work} {es : List HistoryEntry} (h : Same K w w') (d : Detects w' w'' es)
    (k1 : Block.hazard ∉ K := by decide) (k2 : Block.urgent ∉ K := by decide) (k3 : Block.request ∉ K := by decide)
    (k4 : Block.uptime ∉ K := by decide) (k5 : Block.config ∉ K := by decide) : Detects w w'' es :=
  d.before (h.still (h.entry k1) k2 k3 k4 k5) (h.timerView k1)

/-- An operation of another unit after the report. -/
theorem Detects.afterSame {K : List Block} {w w' w'' : Work} {es : List HistoryEntry} (d : Detects w w' es) (h : Same K w' w'')
    (scan : w''.scan.summary = w'.scan.summary)
    (k1 : Block.hazard ∉ K := by decide) (k2 : Block.urgent ∉ K := by decide) (k3 : Block.request ∉ K := by decide)
    (k4 : Block.uptime ∉ K := by decide) (k5 : Block.config ∉ K := by decide) : Detects w w'' es :=
  d.after (h.still (h.entry k1) k2 k3 k4 k5) (h.timerView k1) scan

/-- An operation of another unit, no detector reporting. -/
theorem Detects.ofSame {K : List Block} {w w' : Work} (h : Same K w w') (f : w.hazard.LevelTimersFollow)
    (k1 : Block.hazard ∉ K := by decide) (k2 : Block.urgent ∉ K := by decide) (k3 : Block.request ∉ K := by decide)
    (k4 : Block.uptime ∉ K := by decide) (k5 : Block.config ∉ K := by decide) : Detects w w' [] :=
  .still (h.still (h.entry k1) k2 k3 k4 k5) (h.timerView k1) f

/-- Some run of reports (of at most one detector, with at most one change of level). -/
def Reports (w w' : Work) : Prop := ∃ es, Detects w w' es

variable {w w' w'' : Work}

theorem Reports.refl (f : w.hazard.LevelTimersFollow) : Reports w w := ⟨[], .ofSame (.refl [] w) f⟩

theorem Reports.ite {c : Prop} [Decidable c] {x y : Work} (hx : c → Reports w x) (hy : ¬ c → Reports w y) : Reports w (if c then x else y) := by
  split
  · exact hx ‹_›
  · exact hy ‹_›

theorem follows_same {K : List Block} (h : Same K w w') (f : w.hazard.LevelTimersFollow) (k : Block.hazard ∉ K := by decide) :
    w'.hazard.LevelTimersFollow := f.of_view (h.timerView k)

/-- The hazard unit's own input is taken, and its members of the set follow. -/
theorem Reports.input {g : HazardState → HazardState} (l : List Indication) (f : w.hazard.LevelTimersFollow)
    (entry : (g w.hazard).entry = w.hazard.entry := by rfl) (view : (g w.hazard).timerView = w.hazard.timerView := by rfl) :
    Reports w (changeSet l (updateHazard g w)) := by
  have f' : (updateHazard g w).hazard.LevelTimersFollow := f.of_view view
  obtain ⟨es, d⟩ := Detects.set l f'
  exact ⟨es, .before ((updateHazard_any g w).still entry) view d⟩

theorem takeLevel_reports (l : DetectorLoop) (g : GasLevel) (ppm : Nat) (f : w.hazard.LevelTimersFollow) : Reports w (takeLevel l g ppm w) := by
  unfold takeLevel
  dsimp only
  refine .ite (fun _ => .refl f) fun _ => ?_
  obtain ⟨es, d⟩ := Detects.set (setMember (gasMember l g) _ (updateAnalog _ w).hazard.set) (follows_same (updateAnalog_same _ w) f)
  exact ⟨es, .beforeSame (updateAnalog_same _ w) d⟩

theorem compareLevel_reports (l : DetectorLoop) (g : GasLevel) (ppm : Nat) (f : w.hazard.LevelTimersFollow) : Reports w (compareLevel l g ppm w) :=
  .ite (fun _ => takeLevel_reports l g ppm f) fun _ => .refl f

theorem smokeSettles_reports (l : DetectorLoop) (f : w.hazard.LevelTimersFollow) : Reports w (smokeSettles l w) :=
  .ite (fun _ => .input _ f (by cases l <;> rfl) (by cases l <;> rfl)) fun _ => .refl f

theorem heatSamples_reports (f : w.hazard.LevelTimersFollow) : Reports w (heatSamples w) :=
  .ite (fun _ => .input _ f) fun _ => .refl f

theorem callPointSettles_reports (f : w.hazard.LevelTimersFollow) : Reports w (callPointSettles w) :=
  .ite (fun _ => .input _ f) fun _ => .refl f

theorem hazardSummary_reports (x : Summary) (f : w.hazard.LevelTimersFollow) : Reports w (hazardSummary x w) := by
  unfold hazardSummary
  split
  · exact Detects.set _ f
  · exact .refl f

/-- R17: the readers of a summary beside the hazard unit. -/
theorem readSummary_reports (x : Summary) (f : w.hazard.LevelTimersFollow) : Reports w (readSummary x w) := by
  have s : Same (.balance :: .charge :: .free :: thermalBlocks) w (thermalSummary (balanceSummary (chargeSummary x w))) :=
    (chargeSummary_same x w).comp ((balanceSummary_same _).comp (thermalSummary_same _) (K := .balance :: thermalBlocks))
  obtain ⟨es, d⟩ := hazardSummary_reports x (follows_same s f)
  have s' : Same connBlocks (hazardSummary x (thermalSummary (balanceSummary (chargeSummary x w)))) (readSummary x w) :=
    (limitSummary_same _).comp (connSummary_same _)
  exact ⟨es, (d.beforeSame s).afterSame s' (congrArg (·.summary) (s' .scan (by decide)))⟩

theorem publish_reports (f : w.hazard.LevelTimersFollow) : Reports w (publish w) := by
  unfold publish
  refine .ite (fun _ => ?_) fun _ => .refl f
  obtain ⟨es, d⟩ := readSummary_reports (buildSummary w.count w.scan) (follows_same (updateScan_same _ w) f)
  exact ⟨es, .beforeSame (updateScan_same _ w) d⟩

theorem completeRound_reports (f : w.hazard.LevelTimersFollow) : Reports w (completeRound w) := by
  unfold completeRound
  split
  · rename_i r _
    refine .ite (fun _ => ?_) fun _ => .refl f
    have evaluated (g : ScanState → ScanState) :
        Reports w (creditRound r (retestSets (publish (reviewVisibility (updateScan g w))))) := by
      have s := (updateScan_same g w).comp (reviewVisibility_same _) (K := visibilityBlocks)
      obtain ⟨es, d⟩ := publish_reports (follows_same s f)
      have s' := (retestSets_same (publish (reviewVisibility (updateScan g w)))).comp (creditRound_same r _) (K := [.balance])
      exact ⟨es, (d.beforeSame s).afterSame s' (congrArg (·.summary) (s' .scan (by decide)))⟩
    exact evaluated _
  · exact .refl f

theorem takeReport_reports (r : ModuleReport) (f : w.hazard.LevelTimersFollow) : Reports w (takeReport r w) := by
  unfold takeReport
  refine .ite (fun _ => ?_) fun _ => .refl f
  dsimp only
  have s := (updateModule_same (r.n - 1) (fun m => m.take r) w).comp
    (settleWindow_same (r.n - 1) (.accepted (w.module (r.n - 1)).readmit) _) (K := [.scan])
  obtain ⟨es, d⟩ := completeRound_reports (follows_same s f)
  exact ⟨es, d.beforeSame s⟩

theorem expireWindow_reports (n : Nat) (f : w.hazard.LevelTimersFollow) : Reports w (expireWindow n w) := by
  unfold expireWindow
  dsimp only
  refine .ite (fun _ => ?_) fun _ => .refl f
  have s := ((updateModule_same (n - 1) ModuleRecord.miss w).comp (settleWindow_same (n - 1) .missed _) (K := [.scan])).comp
      ((Same.onlyIf (c := losesModule (n - 1) w) (updateBalance_same (emptySet .notNormal (n - 1)) _)).comp
        (reviewVisibility_same _) (K := .balance :: visibilityBlocks)) (K := .balance :: visibilityBlocks)
  obtain ⟨es, d⟩ := completeRound_reports (follows_same s f)
  exact ⟨es, d.beforeSame s⟩

/-! ## The other events that move the level -/

/-- One change of level that is an event's whole effect. -/
theorem LevelEffect.one (new : HazardLevel) (c : Cause) (h : new ≠ w.hazard.level) (hl : new ≠ .lockout)
    (risen : w.hazard.evaluated = true → new.isAlarm = false → (risingLevel w.hazard.set).code ≤ new.code)
    (pre : new = .preAlarm → preCondition w.hazard.set = true) :
    LevelEffect w (changeLevel new c w) [⟨w.hazard.level, new, c, w.now⟩] := by
  have scan : (changeLevel new c w).scan = w.scan := changeLevel_same new c w .scan (by decide)
  refine ⟨?_, ?_, changeLevel_timers _ _ _ _ (by simp), changeLevel_follows _ _ _ risen pre⟩
  · rw [changeLevel_set]; exact changeLevel_moves _ _ _ h hl
  · rw [changeLevel_set, scan]; exact changeLevel_latches _ _ _

/-- A second change of level at the same event. -/
theorem LevelEffect.andThen {es : List HistoryEntry} (d : LevelEffect w w' es) (new : HazardLevel) (c : Cause) (h : new ≠ w'.hazard.level)
    (hl : new ≠ .lockout) (once : ∀ e ∈ es, e.new ≠ new)
    (risen : w'.hazard.evaluated = true → new.isAlarm = false → (risingLevel w'.hazard.set).code ≤ new.code)
    (pre : new = .preAlarm → preCondition w'.hazard.set = true) :
    LevelEffect w (changeLevel new c w') (es ++ [⟨w'.hazard.level, new, c, w'.now⟩]) := by
  have o := LevelEffect.one new c h hl risen pre
  have scan : (changeLevel new c w').scan = w'.scan := changeLevel_same new c w' .scan (by decide)
  have m := o.moves
  have l := o.latches
  rw [changeLevel_set] at m
  rw [changeLevel_set, scan] at l
  refine ⟨?_, ?_, changeLevel_timers _ _ _ _ (by simp), o.follows⟩
  · rw [changeLevel_set]; exact d.moves.append m
  · rw [changeLevel_set, scan]; exact d.latches.append l (by simpa using once)

theorem escalates_effect (f : w.hazard.LevelTimersFollow) :
    ∃ es, LevelEffect w (escalates w) es ∧ (es = [] ∨ ∃ e, es = [e] ∧ e.new = .alarm ∧ e.cause = .escalation) := by
  unfold escalates
  split
  · rename_i h
    have hl := (f.escalation.1 (by intro e; rw [e] at h; cases h)).1
    exact ⟨_, .one _ _ (by rw [hl]; decide) (by decide) (fun _ h => by cases h) (fun h => by cases h), .inr ⟨_, rfl, rfl, rfl⟩⟩
  · exact ⟨[], .still ((Same.refl [] w).still rfl) rfl f, .inl rfl⟩

/-- R71: without the PRE condition no set asks for more than WATCH, but for one that asks for ALARM. -/
theorem risingLevel_below {set : List Indication} (h : (risingLevel set).code ≤ HazardLevel.preAlarm.code) (p : preCondition set = false) :
    (risingLevel set).code ≤ HazardLevel.watch.code := by
  unfold risingLevel at *
  split at h
  · exact absurd h (by decide)
  · split at h
    · simp_all
    · simp_all; split <;> decide

theorem fallsBack_effect (f : w.hazard.LevelTimersFollow) :
    ∃ es, LevelEffect w (fallsBack w) es ∧ (es = [] ∨ ∃ e, es = [e] ∧ e.new = .watch ∧ e.cause = .fallBack) := by
  unfold fallsBack
  split
  · rename_i h
    obtain ⟨hl, hp⟩ := f.fallBack.1 (by intro e; rw [e] at h; cases h)
    refine ⟨_, .one _ _ (by rw [hl]; decide) (by decide) (fun he _ => ?_) (fun h => by cases h), .inr ⟨_, rfl, rfl, rfl⟩⟩
    have := f.risen he (by rw [hl]; rfl)
    rw [hl] at this
    exact risingLevel_below this hp
  · exact ⟨[], .still ((Same.refl [] w).still rfl) rfl f, .inl rfl⟩

theorem quietEnds_effect (f : w.hazard.LevelTimersFollow) :
    ∃ es, LevelEffect w (quietEnds w) es ∧ (es = [] ∨ ∃ e, es = [e] ∧ e.new = .clear ∧ e.cause = .fallBack) := by
  unfold quietEnds
  split
  · rename_i h
    obtain ⟨hl, hp⟩ := f.quiet.1 (by intro e; rw [e] at h; cases h)
    refine ⟨_, .one _ _ (by rw [hl]; decide) (by decide) (fun _ _ => ?_) (fun h => by cases h), .inr ⟨_, rfl, rfl, rfl⟩⟩
    rw [hp]; decide
  · exact ⟨[], .still ((Same.refl [] w).still rfl) rfl f, .inl rfl⟩

/-- R80, R81: DISCHARGED, after the changes that the same event has brought already. -/
theorem dischargedActive_effect {es : List HistoryEntry} (d : LevelEffect w w' es) (once : ∀ e ∈ es, e.new ≠ .discharged) :
    ∃ down, LevelEffect w (dischargedActive w') (es ++ down)
      ∧ (down = [] ∨ ∃ e, down = [e] ∧ e.new = .discharged ∧ e.cause = .panelDischarged) := by
  unfold dischargedActive
  split
  · rename_i h
    simp only [Bool.and_eq_true, decide_eq_true_eq] at h
    refine ⟨_, d.andThen _ _ (fun e => ?_) (by decide) once (fun _ h => by cases h) (fun h => by cases h), .inr ⟨_, rfl, rfl, rfl⟩⟩
    rw [← e] at h; exact absurd h.2 (by decide)
  · exact ⟨[], by rw [List.append_nil]; exact d, .inl rfl⟩

theorem dischargedSettles_effect (f : w.hazard.LevelTimersFollow) :
    ∃ es, LevelEffect w (dischargedSettles w) es
      ∧ (es = [] ∨ ∃ e, es = [e] ∧ e.new = .discharged ∧ e.cause = .panelDischarged) := by
  unfold dischargedSettles
  split
  · have d : LevelEffect w (updateHazard (fun h => { h with dischargedInput := h.dischargedInput.settle }) w) [] :=
      .still ((updateHazard_any _ w).still rfl) rfl f
    dsimp only
    split
    · exact dischargedActive_effect d (by simp)
    · exact ⟨[], d, .inl rfl⟩
  · exact ⟨[], .still ((Same.refl [] w).still rfl) rfl f, .inl rfl⟩

theorem countdownEnds_effect (f : w.hazard.LevelTimersFollow) :
    ∃ es, LevelEffect w (countdownEnds w) es
      ∧ (es = [] ∨ ∃ e rest, es = e :: rest ∧ e.new = .releasing ∧ e.cause = .countdownEnd
          ∧ (rest = [] ∨ ∃ e', rest = [e'] ∧ e'.new = .discharged ∧ e'.cause = .panelDischarged)) := by
  unfold countdownEnds
  split
  · rename_i h
    simp only [HazardState.countsDown, Bool.and_eq_true, decide_eq_true_eq] at h
    have d : LevelEffect w _ _ := .one .releasing .countdownEnd (by rw [h.1.1]; decide) (by decide) (fun _ h => by cases h) (fun h => by cases h)
    unfold enterReleasing
    dsimp only
    split
    · exact ⟨_, d.andThen .discharged .panelDischarged (by rw [changeLevel_level]; decide) (by decide) (by simp)
        (fun _ h => by cases h) (fun h => by cases h), .inr ⟨_, _, rfl, rfl, rfl, .inr ⟨_, rfl, rfl, rfl⟩⟩⟩
    · exact ⟨_, d, .inr ⟨_, _, rfl, rfl, rfl, .inl rfl⟩⟩
  · exact ⟨[], .still ((Same.refl [] w).still rfl) rfl f, .inl rfl⟩

theorem alarmCondition_rising {set : List Indication} (h : alarmCondition set = true) : risingLevel set = .alarm := by
  unfold risingLevel; rw [if_pos h]

theorem risingLevel_below_discharged (set : List Indication) : risingLevel set ≠ .discharged := by
  unfold risingLevel
  split
  · decide
  · split
    · decide
    · split <;> decide

theorem firstEvaluation_effect (f : w.hazard.LevelTimersFollow) :
    ∃ up down, LevelEffect w (firstEvaluation w) (up ++ down)
      ∧ (up = [] ∨ ∃ e, up = [e] ∧ Completes (fun i => i ∈ w.hazard.set) w.hazard.set e)
      ∧ (down = [] ∨ ∃ e, down = [e] ∧ e.new = .discharged ∧ e.cause = .panelDischarged)
      ∧ (firstEvaluation w).hazard.set = w.hazard.set := by
  unfold firstEvaluation
  split
  · dsimp only
    have st : Still w (updateHazard (fun h => { h with firstEval := none, evaluated := true }) w) := (updateHazard_any _ w).still rfl
    have T : w.hazard.TimersAfter (updateHazard (fun h => { h with firstEval := none, evaluated := true }) w).hazard [] :=
      ⟨f.timers.1, f.timers.2, f.timers.3⟩
    have F (r : ∀ _ : w.hazard.level.isAlarm = false, (risingLevel w.hazard.set).code ≤ w.hazard.level.code) :
        (updateHazard (fun h => { h with firstEval := none, evaluated := true }) w).hazard.LevelTimersFollow :=
      ⟨fun _ h => r h, f.2, f.3, f.4⟩
    have hs : (updateHazard (fun h => { h with firstEval := none, evaluated := true }) w).hazard.set = w.hazard.set := rfl
    have hl : (updateHazard (fun h => { h with firstEval := none, evaluated := true }) w).hazard.level = w.hazard.level := rfl
    have he : (updateHazard (fun h => { h with firstEval := none, evaluated := true }) w).hazard.evaluated = true := rfl
    generalize updateHazard (fun h => { h with firstEval := none, evaluated := true }) w = x at *
    -- one change of level from here
    have step (new : HazardLevel) (c : Cause) (ne : new ≠ x.hazard.level) (nl : new ≠ .lockout)
        (risen : x.hazard.evaluated = true → new.isAlarm = false → (risingLevel x.hazard.set).code ≤ new.code)
        (pre : new = .preAlarm → preCondition x.hazard.set = true) :
        LevelEffect w (changeLevel new c x) [⟨x.hazard.level, new, c, x.now⟩] := by
      have o := LevelEffect.one new c ne nl risen pre
      exact ⟨(st.moves _).append o.moves, (st.latches _ _).append o.latches (by simp), changeLevel_timers _ _ _ _ (by simp), o.follows⟩
    split
    · rename_i hlock
      split
      · rename_i hr
        simp only [rearms, Bool.and_eq_true] at hr
        have ha := alarmCondition_rising hr.1.2
        refine ⟨_, [],
          by rw [List.append_nil]; exact step .alarm _ (by rw [hlock]; decide) (by decide) (fun _ h => by cases h) (fun h => by cases h),
          .inr ⟨_, rfl, ?_⟩, .inl rfl, by rw [changeLevel_set, hs]⟩
        rw [hs] at ha ⊢
        have := causeOf_completes (old := x.hazard.level) (now := x.now) (entered := w.hazard.set) (by rw [ha]; decide)
          (by obtain ⟨i, hi⟩ := risingLevel_takesPart (set := w.hazard.set) (by rw [ha]; decide); exact ⟨i, hi.1, hi⟩)
        rw [ha] at this
        exact this
      · exact ⟨[], [], ⟨st.moves _, st.latches _ _, T, F (fun h => by rw [← hl, hlock] at h; cases h)⟩, .inl rfl, .inl rfl, hs⟩
    · -- the rising transitions, then DISCHARGED
      have up : ∃ up, LevelEffect w (applyRising x.hazard.set x) up
          ∧ (up = [] ∨ ∃ e, up = [e] ∧ Completes (fun i => i ∈ w.hazard.set) w.hazard.set e)
          ∧ (applyRising x.hazard.set x).hazard.set = w.hazard.set ∧ ∀ e ∈ up, e.new ≠ .discharged := by
        rcases applyRising_cases x.hazard.set x with ⟨a, low⟩ | ⟨a, ev, na, lt⟩ <;> rw [a]
        · refine ⟨[], ⟨st.moves _, st.latches _ _, T, ?_⟩, .inl rfl, hs, by simp⟩
          exact F fun h => hs ▸ hl ▸ low he (hl ▸ h)
        · have ne : risingLevel x.hazard.set ≠ .clear := by intro e; rw [e] at lt; exact absurd lt (Nat.not_lt_zero _)
          refine ⟨_, step _ _ (fun e => by rw [← e] at lt; exact absurd lt (Nat.lt_irrefl _)) (risingLevel_not_lockout _)
            (fun _ _ => Nat.le_refl _) (fun h => risingLevel_pre h), .inr ⟨_, rfl, ?_⟩, by rw [changeLevel_set, hs], ?_⟩
          · have := causeOf_completes (old := x.hazard.level) (now := x.now) (entered := x.hazard.set) ne
              (by obtain ⟨i, hi⟩ := risingLevel_takesPart ne; exact ⟨i, hi.1, hi⟩)
            rw [hs] at this ⊢
            exact this
          · intro e he
            obtain rfl := List.mem_singleton.1 he
            exact risingLevel_below_discharged _
      obtain ⟨es, d, c, hset, once⟩ := up
      split
      · obtain ⟨down, d', c'⟩ := dischargedActive_effect d once
        refine ⟨es, down, d', c, c', ?_⟩
        unfold dischargedActive
        split
        · rw [changeLevel_set, hset]
        · exact hset
      · exact ⟨es, [], by rw [List.append_nil]; exact d, c, .inl rfl, hset⟩
  · exact ⟨[], [], .still ((Same.refl [] w).still rfl) rfl f, .inl rfl, .inl rfl, rfl⟩

/-! ## Maintenance clear and the gas supervision -/

/-- What the key's turn brings about: the first-cause records and the lockout erase apart. -/
structure ClearEffect (w w' : Work) (es : List HistoryEntry) : Prop where
  moves : Moves (some w'.hazard.set) w w' es
  timers : w.hazard.TimersAfter w'.hazard es
  follows : w'.hazard.LevelTimersFollow
  set : w'.hazard.set = w.hazard.set
  causes : es = [] ∨ ∃ e rest, es = e :: rest ∧ e.new = .clear ∧ e.cause = .maintClear
      ∧ (rest = [] ∨ ∃ e', rest = [e'] ∧ e'.new = .watch ∧ Completes (fun i => i ∈ w'.hazard.set) w'.hazard.set e')

theorem kindOf_fault {i : Indication} (h : i.isIndication = false) : kindOf i = 5 := by
  cases i <;> first | rfl | cases h

/-- R71: faults alone ask for WATCH at most. -/
theorem risingLevel_faults {set : List Indication} (h : set.any Indication.isIndication = false) :
    risingLevel set = .watch ∨ risingLevel set = .clear := by
  have fault {i} (hi : i ∈ set) : kindOf i = 5 := kindOf_fault (by simpa using List.any_eq_false.1 h i hi)
  have alarm : ¬ alarmCondition set = true := fun ha => by
    obtain ⟨i, -, hi⟩ := List.any_eq_true.1 ha
    rcases (partAlarm_iff _ _).1 hi with ⟨hm, ⟨k, -⟩ | rfl | ⟨j, hj, -, k, -⟩⟩
    · rw [fault hm] at k; cases k
    · exact absurd (fault hm) (by decide)
    · exact k (fault hm)
  have pre : ¬ preCondition set = true := fun ha => by
    obtain ⟨i, -, hi⟩ := List.any_eq_true.1 ha
    rcases (partPre_iff _ _).1 hi with ⟨hm, ⟨k, -⟩ | k | ⟨j, hj, k, -⟩⟩
    · rcases k with rfl | rfl <;> exact absurd (fault hm) (by decide)
    · have := fault hm
      simp only [List.mem_cons, List.not_mem_nil, or_false] at k
      rcases k with rfl | rfl | rfl <;> exact absurd this (by decide)
    · exact k ((fault hm).trans (fault hj).symm)
  unfold risingLevel
  rw [if_neg alarm, if_neg pre]
  split
  · exact .inl rfl
  · exact .inr rfl

theorem hazardMaintenanceClear_effect (f : w.hazard.LevelTimersFollow) : ∃ es, ClearEffect w (hazardMaintenanceClear w) es := by
  unfold hazardMaintenanceClear
  split
  · exact ⟨[], ((Same.refl [] w).still rfl).moves _, f.timers, f, rfl, .inl rfl⟩
  · rename_i faults
    have faults : w.hazard.set.any Indication.isIndication = false := by simpa using faults
    split
    · rename_i latched
      dsimp only
      have M := changeLevel_moves .clear .maintClear w (fun e => by rw [← e] at latched; cases latched) (by decide)
      have hz := changeLevel_hazard .clear .maintClear w
      have now := (changeLevel_same .clear .maintClear w) .uptime (by decide)
      generalize changeLevel .clear .maintClear w = x at M hz now
      rw [if_neg (by decide)] at hz
      -- the records emptied and the erase requested
      obtain ⟨y, hy⟩ : ∃ y, y = requestLockout ⟨none, .none, (updateHazard (fun h => { h.clearRecords with releaseFault := false }) x).now⟩
          (updateHazard (fun h => { h.clearRecords with releaseFault := false }) x) := ⟨_, rfl⟩
      have clear : x.hazard.level = .clear := by rw [hz]; rfl
      have M' : Moves (some w.hazard.set) x y [] := by
        subst hy
        exact .nil _ rfl rfl rfl ⟨rfl, rfl, rfl⟩ rfl
          (fun h => absurd ((congrArg HazardLevel.writesLockout clear).symm.trans h) (by decide)) rfl rfl
      have view : y.hazard.timerView
          = (w.hazard.changed .clear .maintClear (firstCauseOf w .maintClear) (w.loader.cfg.releaseTime * 1000) w.now).timerView := by
        rw [← hz, hy]; rfl
      have M := M.append M'
      rw [List.append_nil] at M
      rw [← hy, show (updateHazard (fun h => { h.clearRecords with releaseFault := false }) x).hazard.set = w.hazard.set by
        show x.hazard.set = _; rw [hz]; rfl]
      clear hy
      simp only [HazardState.timerView, Prod.mk.injEq] at view
      obtain ⟨v1, v2, v3, v4, v5, v6⟩ := view
      have v1 : y.hazard.level = .clear := v1
      have v2 : y.hazard.set = w.hazard.set := v2
      have v4 : y.hazard.escalation = none := v4
      have v5 : y.hazard.fallBack = none := v5
      have v6 : y.hazard.quiet = none := v6
      rcases applyRising_cases w.hazard.set y with ⟨a, low⟩ | ⟨a, ev, na, lt⟩ <;> rw [a]
      · refine ⟨_, by rw [v2]; exact M, ⟨fun _ => ?_, by simp, by simp⟩, ⟨low, ?_, ?_, ?_⟩, v2, .inr ⟨_, [], rfl, rfl, rfl, .inl rfl⟩⟩
        · rw [v1, v4, v5, v6]; simp
        · rw [v1, v4]; simp
        · rw [v1, v5]; simp
        · rw [v1, v6]; simp
      · rw [v2] at lt ⊢
        have watch : risingLevel w.hazard.set = .watch := by
          rcases risingLevel_faults faults with h | h
          · exact h
          · rw [h] at lt; exact absurd lt (Nat.not_lt_zero _)
        generalize hc : causeOf (risingLevel w.hazard.set) w.hazard.set w.hazard.set = c
        have M2 := changeLevel_moves (risingLevel w.hazard.set) c y (by rw [watch, v1]; decide) (risingLevel_not_lockout _)
        rw [v2] at M2
        refine ⟨_, by rw [changeLevel_set, v2]; exact M.append M2, changeLevel_timers _ _ _ _ (by simp),
          changeLevel_follows _ _ _ (fun _ _ => by rw [v2]) (fun h => by rw [v2]; exact risingLevel_pre h),
          by rw [changeLevel_set, v2], .inr ⟨_, _, rfl, rfl, rfl, .inr ⟨_, rfl, watch, ?_⟩⟩⟩
        have ne : risingLevel w.hazard.set ≠ .clear := by rw [watch]; decide
        have := causeOf_completes (old := y.hazard.level) (now := y.now) (entered := w.hazard.set) ne
          (by obtain ⟨i, hi⟩ := risingLevel_takesPart ne; exact ⟨i, hi.1, hi⟩)
        rw [hc] at this
        rw [changeLevel_set, v2]
        exact this
    · exact ⟨[], .nil _ rfl rfl rfl ⟨rfl, rfl, rfl⟩ rfl (fun _ => ⟨rfl, rfl, rfl⟩) rfl rfl, ⟨f.timers.1, f.timers.2, f.timers.3⟩,
        ⟨f.1, f.2, f.3, f.4⟩, rfl, .inl rfl⟩

/-- An operation of another unit before the clear, and one after it. -/
theorem ClearEffect.around {K K' : List Block} {x y : Work} {es : List HistoryEntry} (h : Same K w x) (d : ClearEffect x y es) (h' : Same K' y w')
    (k1 : Block.hazard ∉ K := by decide) (k2 : Block.urgent ∉ K := by decide) (k3 : Block.request ∉ K := by decide)
    (k4 : Block.uptime ∉ K := by decide) (k5 : Block.config ∉ K := by decide)
    (k1' : Block.hazard ∉ K' := by decide) (k2' : Block.urgent ∉ K' := by decide) (k3' : Block.request ∉ K' := by decide)
    (k4' : Block.uptime ∉ K' := by decide) (k5' : Block.config ∉ K' := by decide) : ClearEffect w w' es := by
  have a : x.hazard = w.hazard := h .hazard k1
  have b : w'.hazard = y.hazard := h' .hazard k1'
  have m := (((h.still (h.entry k1) k2 k3 k4 k5).moves (some y.hazard.set)).append d.moves).append
    ((h'.still (h'.entry k1') k2' k3' k4' k5').moves (some y.hazard.set))
  rw [List.append_nil, List.nil_append] at m
  exact ⟨by rw [b]; exact m, by rw [b, ← a]; exact d.timers, by rw [b]; exact d.follows, by rw [b, ← a]; exact d.set,
    by rw [b]; exact d.causes⟩

theorem keyTurned_effect (f : w.hazard.LevelTimersFollow) : ∃ es, ClearEffect w (keyTurned w) es := by
  unfold keyTurned
  dsimp only
  have s := updateKey_same ContactInput.settle w
  split
  · unfold maintenanceClears
    have s' := s.comp ((scanMaintenanceClear_same _).comp (thermalMaintenanceClear_same _) (K := .thermal :: visibilityBlocks))
      (K := .key :: .thermal :: visibilityBlocks)
    obtain ⟨es, d⟩ := hazardMaintenanceClear_effect (follows_same s' f)
    exact ⟨es, .around s' d (connMaintenanceClear_same _)⟩
  · exact ⟨[], (s.still s.entry).moves _, f.timers.of_view rfl s.timerView, f.of_view s.timerView, rfl, .inl rfl⟩

theorem ClearEffect.idle (f : w.hazard.LevelTimersFollow) : ∃ es, ClearEffect w w es :=
  ⟨[], ((Same.refl [] w).still rfl).moves _, f.timers, f, rfl, .inl rfl⟩

theorem keySettles_effect (f : w.hazard.LevelTimersFollow) : ∃ es, ClearEffect w (keySettles w) es := by
  unfold keySettles; split
  · exact keyTurned_effect f
  · exact ClearEffect.idle f

theorem keyTurns_effect (f : w.hazard.LevelTimersFollow) : ∃ es, ClearEffect w (keyTurns w) es := by
  unfold keyTurns; split
  · exact keyTurned_effect f
  · exact ClearEffect.idle f

/-! The gas supervision brings up to three reports (R24). -/

/-- What the reports of a gas loop's supervision bring about. -/
structure SupervisionEffect (w w' : Work) (es : List HistoryEntry) : Prop where
  moves : Moves none w w' es
  latches : Latches none (w'.scan.summary.bind (·.tMax)) w w' es
  follows : w'.hazard.LevelTimersFollow

theorem Moves.forget {set : Option (List Indication)} {es : List HistoryEntry} (m : Moves set w w' es) : Moves none w w' es :=
  ⟨⟨m.moved.chain, m.moved.history, m.moved.episode, m.moved.outputs,
    fun ne => by obtain ⟨x, h, -⟩ := m.moved.frame ne; exact ⟨x, h, fun _ h => by cases h⟩, m.moved.write⟩, m.still, m.sending, m.now,
    m.cfg⟩

theorem FirstCauseLatched.forget {level : HazardLevel} {a b : Option FirstCause} {es : List HistoryEntry} {set : Option (List Indication)}
    {tMax : Option TempAt} {now : Nat} (l : FirstCauseLatched level a b es set tMax now) : FirstCauseLatched level a b es none tMax now :=
  ⟨l.kept, fun e he hl ha => by
    obtain ⟨r, h1, h2, h3, h4, -⟩ := l.latched e he hl ha
    exact ⟨r, h1, h2, h3, h4, fun _ h => by cases h⟩⟩

theorem Latches.forget {set : Option (List Indication)} {tMax : Option TempAt} {es : List HistoryEntry} (l : Latches set tMax w w' es) :
    Latches none tMax w w' es := ⟨l.pre.forget, l.alarm.forget, l.silent, l.now⟩

/-- A member that leaves the set raises no level. -/
theorem changeSet_leaves (l : List Indication) (sub : ∀ i ∈ l, i ∈ w.hazard.set) (f : w.hazard.LevelTimersFollow) :
    Detects w (changeSet l w) [] := by
  obtain ⟨es, d⟩ := Detects.set l f
  rcases d.cause with rfl | ⟨e, rfl, i, -, hi, -⟩
  · exact d
  · exact absurd (sub i (changeSet_set l w ▸ hi.1)) hi.2

theorem mem_setMember {i j : Indication} {v : Bool} {set : List Indication} :
    j ∈ setMember i v set ↔ if j = i then v = true else j ∈ set := by
  unfold setMember
  rw [List.mem_filter]
  simp only [j.mem_all, true_and]
  split <;> simp

/-- One of the level reports: it raises the level at most once, with its own member as the cause. -/
theorem takeLevel_effect (l : DetectorLoop) (g : GasLevel) (ppm : Nat) (f : w.hazard.LevelTimersFollow) :
    ∃ es, Detects w (takeLevel l g ppm w) es ∧ es.length ≤ 1
      ∧ (∀ e ∈ es, e.cause = .member (gasMember l g) ∧ gasMember l g ∈ (takeLevel l g ppm w).hazard.set ∧ gasMember l g ∉ w.hazard.set)
      ∧ (∀ e ∈ es, w.hazard.level.code < e.new.code ∧ e.new = (takeLevel l g ppm w).hazard.level)
      ∧ ∀ j, j ≠ gasMember l g → (j ∈ (takeLevel l g ppm w).hazard.set ↔ j ∈ w.hazard.set) := by
  unfold takeLevel
  dsimp only
  split
  · exact ⟨[], .ofSame (.refl [] w) f, by simp, by simp, by simp, fun _ _ => Iff.rfl⟩
  · generalize levelState w.loader.cfg g ((w.analog.comparators l).level g) ppm = v
    have s := updateAnalog_same (fun a => a.onLoop l fun c => c.setLevel g v) w
    have hset : (updateAnalog (fun a => a.onLoop l fun c => c.setLevel g v) w).hazard = w.hazard := rfl
    generalize updateAnalog (fun a => a.onLoop l fun c => c.setLevel g v) w = x at s hset
    unfold changeMember
    obtain ⟨es, m⟩ := changeSet_moved (setMember (gasMember l g) v x.hazard.set) (follows_same s f)
    have hs := changeSet_set (setMember (gasMember l g) v x.hazard.set) x
    refine ⟨es, .beforeSame s (.ofMoved m), ?_, fun e he => ?_, by rw [← hset]; exact m.rises, fun j hj => ?_⟩
    · rcases m.cause with rfl | ⟨e, rfl, -⟩ <;> simp
    · rcases m.cause with rfl | ⟨e', rfl, i, hc, hi, -⟩
      · cases he
      · obtain rfl := List.mem_singleton.1 he
        have hi' := mem_setMember.1 hi.1
        split at hi'
        · rename_i e
          subst e
          exact ⟨hc, by rw [hs]; exact hi.1, hset ▸ hi.2⟩
        · exact absurd hi' hi.2
    · rw [hs, mem_setMember, if_neg hj, hset]

/-- R23, R67: a gas loop's supervision that sets, or that crosses nothing. -/
theorem compareLoopFault_reports (l : DetectorLoop) (i : Nat) (hf : (w.analog.comparators l).fault = false) (f : w.hazard.LevelTimersFollow) :
    Reports w (compareLoopFault l i w) := by
  unfold compareLoopFault
  dsimp only
  refine .ite (fun h => ?_) fun _ => .refl f
  generalize hv : loopFaultState (w.analog.comparators l).fault i = v at *
  rw [hf] at h
  have s := updateAnalog_same (fun a => a.onLoop l fun c => { c with fault := v }) w
  generalize updateAnalog (fun a => a.onLoop l fun c => { c with fault := v }) w = x at s
  obtain rfl : v = true := by simp at h; exact h.2
  obtain ⟨es, d⟩ := Detects.set (setMember (gasFaultMember l) true x.hazard.set) (follows_same s f)
  exact ⟨es, d.beforeSame s⟩

/-- R24: a gas loop's supervision that clears: the fault leaves the set, then each level comparator reports. -/
theorem compareLoopFault_effect (l : DetectorLoop) (i : Nat) (hf : (w.analog.comparators l).fault = true) (f : w.hazard.LevelTimersFollow) :
    ∃ es, SupervisionEffect w (compareLoopFault l i w) es ∧ es.length ≤ 2 ∧ ∀ e ∈ es, ∃ g, e.cause = .member (gasMember l g)
      ∧ gasMember l g ∈ (compareLoopFault l i w).hazard.set ∧ gasMember l g ∉ w.hazard.set := by
  unfold compareLoopFault
  dsimp only
  split
  · rename_i h
    have s := updateAnalog_same (fun a => a.onLoop l fun c => { c with fault := loopFaultState (w.analog.comparators l).fault i }) w
    have hset : (updateAnalog (fun a => a.onLoop l fun c => { c with fault := loopFaultState (w.analog.comparators l).fault i }) w).hazard
      = w.hazard := rfl
    generalize updateAnalog (fun a => a.onLoop l fun c => { c with fault := loopFaultState (w.analog.comparators l).fault i }) w = x at s hset
    rw [hf] at h
    rw [hf]
    have e : loopFaultState true i = false := by simp at h; exact h.2
    rw [e, if_neg (by simp)]
    have d0 := (changeSet_leaves (w := x) (setMember (gasFaultMember l) false x.hazard.set) (fun j hj => by
      have := mem_setMember.1 hj
      split at this
      · cases this
      · exact this) (follows_same s f)).beforeSame s
    have hs0 := changeSet_set (setMember (gasFaultMember l) false x.hazard.set) x
    unfold changeMember
    generalize changeSet (setMember (gasFaultMember l) false x.hazard.set) x = y at d0 hs0
    obtain ⟨e1, d1, n1, c1, r1, k1⟩ := takeLevel_effect (w := y) l .l1 (ppmOf i) d0.follows
    have scan1 := congrArg (fun c : ScanState => c.summary.bind (·.tMax)) ((takeLevel_same l .l1 (ppmOf i) y) .scan (by decide))
    generalize takeLevel l .l1 (ppmOf i) y = z at d1 c1 r1 k1 scan1 ⊢
    obtain ⟨e2, d2, n2, c2, r2, k2⟩ := takeLevel_effect (w := z) l .l2 (ppmOf i) d1.follows
    have scan2 := congrArg (fun c : ScanState => c.summary.bind (·.tMax)) ((takeLevel_same l .l2 (ppmOf i) z) .scan (by decide))
    generalize takeLevel l .l2 (ppmOf i) z = t at d2 c2 r2 k2 scan2 ⊢
    have l0 := d0.latches.forget
    have l1 := d1.latches.forget
    rw [← scan1, ← scan2] at l0
    rw [← scan2] at l1
    have once : ∀ e ∈ e1, ∀ e' ∈ e2, e.new ≠ e'.new := fun e he e' he' eq => by
      have h1 := (r1 e he).2
      have h2 := (r2 e' he').1
      rw [← eq, h1] at h2
      exact Nat.lt_irrefl _ h2
    have other : gasMember l .l1 ≠ gasMember l .l2 := by cases l <;> decide
    have fault (g) : gasMember l g ≠ gasFaultMember l := by cases l <;> cases g <;> decide
    have out (g) (h : gasMember l g ∉ y.hazard.set) : gasMember l g ∉ w.hazard.set := by
      rw [hs0, mem_setMember, if_neg (fault g), hset] at h
      exact h
    refine ⟨e1 ++ e2, ⟨?_, ?_, d2.follows⟩, ?_, fun e he => ?_⟩
    · exact (d0.moves.forget.append d1.moves.forget).append d2.moves.forget
    · exact (l0.append l1 (by simp)).append d2.latches.forget once
    · rw [List.length_append]; omega
    · rcases List.mem_append.1 he with he | he
      · obtain ⟨hc, hm, hn⟩ := c1 e he
        exact ⟨.l1, hc, (k2 _ other).2 hm, out _ hn⟩
      · obtain ⟨hc, hm, hn⟩ := c2 e he
        exact ⟨.l2, hc, hm, out _ fun h => hn ((k1 _ other.symm).2 h)⟩
  · exact ⟨[], ⟨((Same.refl [] w).still rfl).moves _, ((Same.refl [] w).still rfl).latches _ _, f⟩, by simp, by simp⟩

end Sys2Proof.Machine
end

