-- ==== Sys2Proof/Laws/Operations.lean ====
section
/-! SUPPORT. What channel checking and the operations over the capability and the setpoint leave as it is, and what the immediate clamp
does. -/

set_option Elab.async false

namespace Sys2Proof.Machine

/-! ## Channel checking (R6 to R14) -/

theorem noTemperature_eq_false {m : ModuleRecord} (h : ∃ x ∈ m.temps, x.valid = true) : m.noTemperature = false := by
  unfold ModuleRecord.noTemperature
  simpa using h

/-- Channel checking moves no check index. -/
theorem channelCheck_k (m : ModuleRecord) (round tolSum tolChk : Nat) : (m.channelCheck round tolSum tolChk).k = m.k := by
  unfold ModuleRecord.channelCheck ModuleRecord.checkDegraded ModuleRecord.checkSubstituted ModuleRecord.suspectCheck ModuleRecord.searchOn
    ModuleRecord.placeFault ModuleRecord.hold ModuleRecord.confirm ModuleRecord.endSearch
  dsimp only
  repeat' split
  all_goals rfl

/-- Channel checking takes no module to LOST. -/
theorem channelCheck_ne_lost {m : ModuleRecord} (h : m.check.checked = true) (round tolSum tolChk : Nat) :
    (m.channelCheck round tolSum tolChk).check ≠ .lost := by
  unfold ModuleRecord.channelCheck ModuleRecord.checkDegraded ModuleRecord.checkSubstituted ModuleRecord.suspectCheck ModuleRecord.searchOn
    ModuleRecord.placeFault ModuleRecord.hold ModuleRecord.confirm ModuleRecord.endSearch
  dsimp only
  repeat' split
  all_goals (intro e; simp_all [CheckState.checked])

/-! ## Setpoint and capability (R108 to R111) -/

/-- R111: what the immediate clamp does; the capabilities are those it was given. -/
theorem clampSetpoint_clamped (l : LimitState) :
    l.Clamped (clampSetpoint l) ∧ (clampSetpoint l).cDis = l.cDis ∧ (clampSetpoint l).cChg = l.cChg := by
  unfold clampSetpoint LimitState.Clamped
  split
  · refine ⟨⟨fun _ => ⟨rfl, rfl⟩, fun h => ?_, fun _ h => ?_⟩, rfl, rfl⟩ <;> dsimp only at * <;> omega
  · split
    · refine ⟨⟨fun h => ?_, fun _ => ⟨rfl, rfl⟩, fun _ h => ?_⟩, rfl, rfl⟩ <;> dsimp only at * <;> omega
    · refine ⟨⟨fun h => ?_, fun h => ?_, fun _ h => ⟨rfl, rfl⟩⟩, rfl, rfl⟩ <;> omega

/-- R110: the step toward the target is no share computation. -/
theorem rampStep_sameShare (l : LimitState) : (rampStep l).SameShare l := by
  unfold rampStep
  repeat' split
  all_goals exact ⟨rfl, rfl, rfl, rfl, rfl, rfl, rfl⟩

/-- R108: a share computation over the limits, the peers, the connection state and the charge alone: where these agree it gives the same. -/
theorem computeShare_sameShare {w w' : Work} (limit : w'.limit = w.limit) (peers : w'.peers = w.peers)
    (phase : w'.conn.phase = w.conn.phase) (charge : w'.charge = w.charge) :
    (computeShare w').limit.SameShare (computeShare w).limit := by
  unfold computeShare LimitState.SameShare updateLimit
  rw [limit, peers, phase, charge]
  exact ⟨rfl, rfl, rfl, rfl, rfl, rfl, rfl⟩

/-- R102: a capability update takes the derates as they are. -/
theorem capabilityUpdate_derates (w : Work) :
    (capabilityUpdate w).limit.thermalDerate = w.limit.thermalDerate ∧ (capabilityUpdate w).limit.hazardDerate = w.limit.hazardDerate
      ∧ (capabilityUpdate w).limit.visibility = w.limit.visibility := by
  have h (l : LimitState) : (clampSetpoint l).thermalDerate = l.thermalDerate ∧ (clampSetpoint l).hazardDerate = l.hazardDerate
      ∧ (clampSetpoint l).visibility = l.visibility := by
    unfold clampSetpoint
    repeat' split
    all_goals exact ⟨rfl, rfl, rfl⟩
  exact h _

end Sys2Proof.Machine
end

