-- ==== Sys2Proof/Laws/PerInstr.lean ====
section
/-! SUPPORT. The per-command family `Encoding`: no row of spec/opcode_table.json gives bits, so no word spells the command. -/

set_option Elab.async false

namespace Sys2Proof.Laws.Encoding

/-- No word of any length spells the command. -/
def Statement (i : Instr) : Prop := ∀ nbits w : Nat, Sys2Proof.decodeTableWord nbits w ≠ some i

theorem powerOn (straps : BitVec 5) : Statement (.powerOn straps) := fun _ _ => nofun
theorem resetInput : Statement .resetInput := fun _ _ => nofun
theorem resetRelease (straps : BitVec 5) : Statement (.resetRelease straps) := fun _ _ => nofun
theorem loaderFinish (memoryAcknowledges : Bool) : Statement (.loaderFinish memoryAcknowledges) := fun _ _ => nofun
theorem uptimeSecond : Statement .uptimeSecond := fun _ _ => nofun
theorem scanRoundStart : Statement .scanRoundStart := fun _ _ => nofun
theorem moduleRequestSent : Statement .moduleRequestSent := fun _ _ => nofun
theorem moduleReport (r : ModuleReport) : Statement (.moduleReport r) := fun _ _ => nofun
theorem answerWindowExpiry (n : Nat) : Statement (.answerWindowExpiry n) := fun _ _ => nofun
theorem currentConversion (current : Int) : Statement (.currentConversion current) := fun _ _ => nofun
theorem calibrationAtFull : Statement .calibrationAtFull := fun _ _ => nofun
theorem gasLoopConversion (currentA currentB : Nat) : Statement (.gasLoopConversion currentA currentB) := fun _ _ => nofun
theorem temperatureConversion (inlet outlet ambient : Int) : Statement (.temperatureConversion inlet outlet ambient) := fun _ _ => nofun
theorem fastTripComparator (d : Direction) (current : Int) : Statement (.fastTripComparator d current) := fun _ _ => nofun
theorem gasLevelComparator (loop : DetectorLoop) (lvl : GasLevel) (ppm : Nat) : Statement (.gasLevelComparator loop lvl ppm) := fun _ _ => nofun
theorem loopFaultComparator (loop : DetectorLoop) (current : Nat) : Statement (.loopFaultComparator loop current) := fun _ _ => nofun
theorem balanceEvaluation : Statement .balanceEvaluation := fun _ _ => nofun
theorem minimumOnTimerExpiry : Statement .minimumOnTimerExpiry := fun _ _ => nofun
theorem minimumOffTimerExpiry : Statement .minimumOffTimerExpiry := fun _ _ => nofun
theorem runFeedbackChange (active : Bool) : Statement (.runFeedbackChange active) := fun _ _ => nofun
theorem compressorStartMonitorExpiry : Statement .compressorStartMonitorExpiry := fun _ _ => nofun
theorem tachPulse (d : PwmDrive) : Statement (.tachPulse d) := fun _ _ => nofun
theorem tachWindowEnd : Statement .tachWindowEnd := fun _ _ => nofun
theorem retryTimerExpiry : Statement .retryTimerExpiry := fun _ _ => nofun
theorem pwmPeriodStart : Statement .pwmPeriodStart := fun _ _ => nofun
theorem smokeLoopBandChange (loop : DetectorLoop) (milliVolt : Nat) : Statement (.smokeLoopBandChange loop milliVolt) := fun _ _ => nofun
theorem smokeLoopPersistenceExpiry (loop : DetectorLoop) : Statement (.smokeLoopPersistenceExpiry loop) := fun _ _ => nofun
theorem contactTerminalChange (c : Contact) (active : Bool) : Statement (.contactTerminalChange c active) := fun _ _ => nofun
theorem contactInputSettled (c : Contact) : Statement (.contactInputSettled c) := fun _ _ => nofun
theorem heatRiseSample : Statement .heatRiseSample := fun _ _ => nofun
theorem hazardFirstEvaluation : Statement .hazardFirstEvaluation := fun _ _ => nofun
theorem escalationTimerExpiry : Statement .escalationTimerExpiry := fun _ _ => nofun
theorem fallBackTimerExpiry : Statement .fallBackTimerExpiry := fun _ _ => nofun
theorem quietTimerExpiry : Statement .quietTimerExpiry := fun _ _ => nofun
theorem countdownEnd : Statement .countdownEnd := fun _ _ => nofun
theorem dischargeConfirmationExpiry : Statement .dischargeConfirmationExpiry := fun _ _ => nofun
theorem lockoutWriteStart : Statement .lockoutWriteStart := fun _ _ => nofun
theorem lockoutWriteCompletion (acknowledged : Bool) (held : List Byte) : Statement (.lockoutWriteCompletion acknowledged held) := fun _ _ => nofun
theorem lockoutRetryExpiry : Statement .lockoutRetryExpiry := fun _ _ => nofun
theorem maintenanceClear : Statement .maintenanceClear := fun _ _ => nofun
theorem setpointPeriod : Statement .setpointPeriod := fun _ _ => nofun
theorem converterAnswer (a : ConverterAnswer) : Statement (.converterAnswer a) := fun _ _ => nofun
theorem gridHealthyDelayReached : Statement .gridHealthyDelayReached := fun _ _ => nofun
theorem prechargeTimeout : Statement .prechargeTimeout := fun _ _ => nofun
theorem readyTimeout : Statement .readyTimeout := fun _ _ => nofun
theorem rideThroughExpired : Statement .rideThroughExpired := fun _ _ => nofun
theorem disconnectWaitExpiry : Statement .disconnectWaitExpiry := fun _ _ => nofun
theorem visibilityTimerExpiry : Statement .visibilityTimerExpiry := fun _ _ => nofun
theorem retryDelayExpiry : Statement .retryDelayExpiry := fun _ _ => nofun
theorem receiverIdleReached : Statement .receiverIdleReached := fun _ _ => nofun
theorem receiveFault (f : ReceiveFault) : Statement (.receiveFault f) := fun _ _ => nofun
theorem frameComplete (c : Byte) : Statement (.frameComplete c) := fun _ _ => nofun
theorem transmitStart : Statement .transmitStart := fun _ _ => nofun
theorem deferral : Statement .deferral := fun _ _ => nofun
theorem collision : Statement .collision := fun _ _ => nofun
theorem frameSent : Statement .frameSent := fun _ _ => nofun
theorem errorWindowEnd : Statement .errorWindowEnd := fun _ _ => nofun
theorem peerAgeingTick : Statement .peerAgeingTick := fun _ _ => nofun
theorem stalenessTimerExpiry : Statement .stalenessTimerExpiry := fun _ _ => nofun
theorem listeningTimerExpiry : Statement .listeningTimerExpiry := fun _ _ => nofun
theorem learningTimerExpiry : Statement .learningTimerExpiry := fun _ _ => nofun
theorem statusTimerExpiry : Statement .statusTimerExpiry := fun _ _ => nofun
theorem askOneSecondCheck : Statement .askOneSecondCheck := fun _ _ => nofun
theorem askThirtySecondCheck : Statement .askThirtySecondCheck := fun _ _ => nofun
theorem holdLimitExpiry : Statement .holdLimitExpiry := fun _ _ => nofun
theorem backoffExpiry : Statement .backoffExpiry := fun _ _ => nofun
theorem lampFlashTick (lamp : Lamp) : Statement (.lampFlashTick lamp) := fun _ _ => nofun
theorem characterTaken (c : Byte) : Statement (.characterTaken c) := fun _ _ => nofun

end Sys2Proof.Laws.Encoding
end

