-- ==== Sys2Proof/Laws/Records.lean ====
section
/-! SUPPORT. The parts of the records, read back: which READs are answered OK, and that a part holds the fields that
`State.recordFields` gives. -/

namespace Sys2Proof.Machine

theorem length_beBytes (n v : Nat) : (beBytes n v).length = n := by
  induction n with
  | zero => rfl
  | succ n ih => simp [beBytes, ih]

theorem beNat_fold (bytes : List Byte) (acc : Nat) :
    bytes.foldl (fun acc b => acc * 256 + b.toNat) acc = acc * 256 ^ bytes.length + beNat bytes := by
  induction bytes generalizing acc with
  | nil => simp [beNat]
  | cons b rest ih =>
    rw [beNat, List.foldl_cons, List.foldl_cons, ih, ih, List.length_cons, Nat.pow_succ]
    simp only [Nat.zero_mul, Nat.zero_add, Nat.add_mul, Nat.mul_assoc, Nat.mul_comm 256, Nat.add_assoc]

/-- What `beBytes` writes is read back, modulo the field's length. -/
theorem beNat_beBytes (n v : Nat) : beNat (beBytes n v) = v % 256 ^ n := by
  induction n with
  | zero => simp [beBytes, beNat, Nat.mod_one]
  | succ n ih =>
    rw [beBytes, beNat, List.foldl_cons, beNat_fold, ih, length_beBytes, Nat.zero_mul, Nat.zero_add, BitVec.toNat_ofNat, Nat.mod_pow_succ (b := 256),
      Nat.mul_comm, Nat.add_comm]

/-- The bytes of some fields. -/
def encodeFields (fields : List (Nat × Nat)) : List Byte := fields.flatMap fun f => beBytes f.1 f.2

@[simp] theorem encodeFields_nil : encodeFields [] = [] := rfl
@[simp] theorem encodeFields_cons (f : Nat × Nat) (rest : List (Nat × Nat)) : encodeFields (f :: rest) = beBytes f.1 f.2 ++ encodeFields rest := rfl
@[simp] theorem encodeFields_append (a b : List (Nat × Nat)) : encodeFields (a ++ b) = encodeFields a ++ encodeFields b := List.flatMap_append

/-- The bytes of some fields hold them. -/
theorem holds_encode (fields : List (Nat × Nat)) : HoldsFields (encodeFields fields) fields := by
  induction fields with
  | nil => exact ⟨rfl, rfl⟩
  | cons f rest ih =>
    refine ⟨?_, ?_⟩
    · rw [encodeFields_cons, List.length_append, length_beBytes, ih.1]; rfl
    · rw [encodeFields_cons, List.map_cons, fieldsOf, List.take_left' (length_beBytes _ _), List.drop_left' (length_beBytes _ _), ih.2,
        beNat_beBytes]; rfl

theorem beBytes_ones (n : Nat) : beBytes n (256 ^ n - 1) = allOnes n := by
  suffices h : ∀ k, n ≤ k → beBytes n (256 ^ k - 1) = allOnes n from h n (Nat.le_refl n)
  induction n with
  | zero => intro k _; rfl
  | succ n ih =>
    intro k hk
    rw [beBytes, ih k (by omega)]
    obtain ⟨d, rfl⟩ : ∃ d, k = n + (d + 1) := ⟨k - n - 1, by omega⟩
    have q : (256 ^ (n + (d + 1)) - 1) / 256 ^ n = 256 ^ (d + 1) - 1 := by
      have p : 0 < 256 ^ n := Nat.pow_pos (by decide)
      rw [Nat.pow_add]
      apply Nat.div_eq_of_lt_le
      · rw [Nat.sub_mul, Nat.one_mul, Nat.mul_comm]; omega
      · have e : 256 ^ (d + 1) - 1 + 1 = 256 ^ (d + 1) := Nat.sub_add_cancel (Nat.pow_pos (by decide))
        have : 0 < 256 ^ n * 256 ^ (d + 1) := Nat.mul_pos p (Nat.pow_pos (by decide))
        rw [e, Nat.mul_comm (256 ^ (d + 1))]; omega
    have r : BitVec.ofNat 8 (256 ^ (d + 1) - 1) = 0xFF#8 := by
      apply BitVec.eq_of_toNat_eq
      have : 0 < 256 ^ d := Nat.pow_pos (by decide)
      rw [BitVec.toNat_ofNat, Nat.pow_succ]
      change (256 ^ d * 256 - 1) % 256 = 255
      omega
    rw [q, r]; rfl

/-! ## The fields of Machine/Records.lean as fields -/

@[simp] theorem beBytes_flag (b : Bool) : beBytes (flagField b).1 (flagField b).2 = flagByte b := rfl
@[simp] theorem beBytes_signed (n : Nat) (v : Int) : beBytes (signedField n v).1 (signedField n v).2 = beSigned n v := rfl
@[simp] theorem beBytes_onesField (n : Nat) : beBytes (onesField n).1 (onesField n).2 = allOnes n := beBytes_ones n
@[simp] theorem beBytes_ms (n : Nat) (t : Timer) : beBytes (elapsedField n 1 t).1 (elapsedField n 1 t).2 = timerMs n t := by
  cases t with
  | none => exact beBytes_ones n
  | some ms => exact congrArg (beBytes n) (Nat.div_one ms)
@[simp] theorem beBytes_s (n : Nat) (t : Timer) : beBytes (elapsedField n 1000 t).1 (elapsedField n 1000 t).2 = timerS n t := by
  cases t with
  | none => exact beBytes_ones n
  | some ms => rfl


theorem encodeFields_flatMap {α : Type} (l : List α) (f : α → List (Nat × Nat)) :
    encodeFields (l.flatMap f) = l.flatMap fun x => encodeFields (f x) := by
  induction l with
  | nil => rfl
  | cons x rest ih => rw [List.flatMap_cons, List.flatMap_cons, encodeFields_append, ih]

theorem encodeFields_map {α : Type} (l : List α) (f : α → Nat × Nat) :
    encodeFields (l.map f) = l.flatMap fun x => beBytes (f x).1 (f x).2 := by
  induction l with
  | nil => rfl
  | cons x rest ih => rw [List.map_cons, List.flatMap_cons, encodeFields_cons, ih]

/-! ## The parts -/

theorem encode_cell (x : Option CellAt) : encodeFields (cellFields x) = cellField x := by
  cases x <;> simp [cellFields, cellField, optional]

theorem encode_temp (x : Option TempAt) : encodeFields (tempFields x) = tempField x := by
  cases x <;> simp [tempFields, tempField, optional]

theorem encode_string (w : Work) : encodeFields (stringFields w.scan.summary w.limit.summaryPresent) = stringPart0 w := by
  unfold stringFields stringPart0
  cases w.scan.summary <;> simp [optional, summaryField, encode_cell, encode_temp]

theorem encode_maxima (w : Work) : encodeFields (maximaFields w.scan.summary) = stringPart1 w := by
  unfold maximaFields stringPart1
  cases w.scan.summary with
  | none => simp [optional]
  | some x =>
    refine (encodeFields_map _ _).trans (congrArg (x.maxima.flatMap ·) (funext fun v => ?_))
    cases v <;> simp [optional]

theorem encode_module (m : ModuleRecord) : encodeFields (moduleFields m) = modulePart1 m := by
  simp [moduleFields, modulePart1, encodeFields_flatMap]

theorem encode_check (m : ModuleRecord) : encodeFields (checkFields m) = modulePart2 m := by
  unfold checkFields modulePart2
  cases m.subst <;> cases m.errorHold <;> simp [encodeFields_map, errorHoldField, optional]

theorem encode_charge (w : Work) : encodeFields (chargeFields w.charge w.loader.cfg.qFull) = chargePart w := by
  simp [chargeFields, chargePart]

theorem encode_balance (b : BalanceState) (i : Nat) : encodeFields (balanceFields b i) = balancePart0 b i := by
  unfold balanceFields balancePart0
  cases b.target <;> simp [memberBits, optional]

theorem encode_thermal (t : ThermalState) : encodeFields (thermalFields t) = thermalPart0 t := by
  unfold thermalFields thermalPart0
  cases t.wanted <;> simp [optional]

theorem encode_hazard (w : Work) : encodeFields (hazardFields w.hazard w.analog.gasA w.analog.gasB) = hazardPart0 w := by
  unfold hazardFields hazardPart0
  cases h : w.hazard.image <;> simp [h, imageField, gasField, countdownSeconds, optional]

theorem encode_peer (e : PeerEntry) : encodeFields (peerFields e) = peerPart0 e := by
  rcases e with ⟨presence, age, kind, digest, announced, status, level, hazard, dispatch, frames⟩
  cases announced <;> cases status <;> cases level <;> cases hazard <;> cases dispatch <;>
    simp [peerFields, peerPart0, announcedField, statusField, hazardField, dispatchField, optional]

theorem encode_connection (c : ConnState) : encodeFields (connectionFields c) = connectionPart0 c := by
  have bits (l : LockReasons) :
      (if l.failures then 1 else 0) + (if l.hazard then 2 else 0) + (if l.duplicate then 4 else 0) = lockBits l := by
    rcases l with ⟨⟨⟩, ⟨⟩, ⟨⟩⟩ <;> rfl
  unfold connectionFields connectionPart0
  rw [bits]
  cases c.lastExit <;> cases c.threshold <;> simp [exitField, optional]

theorem encode_link (w : Work) :
    encodeFields (linkFields w.conn w.loader.cfg.reconnectDelay w.loader.cfg.rideThrough) = connectionPart1 w := by
  unfold linkFields connectionPart1
  cases h : w.conn.lastFrame <;> cases k : w.conn.lastAnswer <;> simp [h, k, answerField, optional]

theorem encode_adjusted (r : SectionReport) : encodeFields (adjustedFields r) = sectionField r := by
  rcases r with ⟨_, ⟨⟩, ⟨⟩, ⟨⟩⟩ <;> rfl

theorem encode_config (l : LoaderState) : encodeFields (configFields l) = configPart l := by
  unfold configFields configPart
  cases l.startKind <;> simp [encode_adjusted, optional]

/-! ## The server -/

/-- R193: a READ is answered OK exactly in the ranges of its table. -/
theorem recordContent_isSome (w : Work) (kind inst part : Nat) :
    (recordContent w kind inst part).isSome = true ↔ RecordReadable kind inst part := by
  constructor
  · unfold recordContent RecordReadable
    split <;> simp [checked, inRange]
  · rintro (⟨rfl | rfl, rfl, h⟩ | ⟨rfl, hi, hj, h⟩ | ⟨rfl | rfl, rfl, rfl⟩ | ⟨rfl, hi, hj, h⟩ | ⟨rfl, rfl, h⟩ | ⟨rfl, hi, hj, h⟩ | ⟨rfl, rfl, h⟩)
      <;> (try interval_cases part) <;> simp [recordContent, checked, inRange, *]

/-- R193, R194: a part that is answered holds its fields. -/
theorem recordContent_fields {w : Work} {kind inst part : Nat} {content : List Byte} {fields : List (Nat × Nat)}
    (answered : recordContent w kind inst part = some content) (stated : w.toState.recordFields kind inst part = some fields) :
    HoldsFields content fields := by
  suffices h : encodeFields fields = content from h ▸ holds_encode fields
  have pass {b : Bool} {l : List Byte} (h : checked b l = some content) : l = content := by
    cases b <;> simp_all [checked]
  unfold State.recordFields at stated
  split at stated <;> cases stated <;> rw [← pass answered]
  · exact encode_string w
  · exact encode_maxima w
  · exact encodeFields_map _ _
  · exact encode_module _
  · exact encode_check _
  · exact encode_charge w
  · exact encode_balance _ _
  · exact encodeFields_map _ _
  · exact encode_thermal _
  · exact encode_hazard w
  · exact encode_peer _
  · exact encode_connection _
  · exact encode_link w
  · exact encode_config _

end Sys2Proof.Machine
end

