-- ==== Sys2Proof/WellFormed.lean ====
section
/-! DEFINITION. Which commands are well formed: the operands hold as many readings as the spec's report has, and an answer's fields
lie in the values of section 9.2. A command that is not well formed is still taken (a report without its 20 readings is discarded
under R2); well-formedness says what the outside can send. -/

namespace Sys2Proof

/-- A report as a module sense unit can frame it: 20 cell readings and 4 temperatures (section 1.1.1). -/
def ModuleReport.wellFormed (r : ModuleReport) : Bool :=
  r.cells.length == 20 && r.temps.length == 4

/-- An answer within the fields' values of section 9.2. -/
def ConverterAnswer.wellFormed (a : ConverterAnswer) : Bool :=
  decide (a.seqEcho ≤ 255) && decide (a.dcLink ≤ 2000000)

/-- The operands a command can carry. -/
def Instr.wellFormed : Instr → Bool
  | .moduleReport r => r.wellFormed
  | .answerWindowExpiry n => decide (1 ≤ n ∧ n ≤ 16)
  | .converterAnswer a => a.wellFormed
  | .lockoutWriteCompletion _ held => held.length == 16
  | .gasLevelComparator _ _ ppm => decide (ppm ≤ 1000)
  | .powerOn .. | .resetInput | .resetRelease .. | .loaderFinish .. | .uptimeSecond | .scanRoundStart
  | .moduleRequestSent | .currentConversion .. | .calibrationAtFull | .gasLoopConversion .. | .temperatureConversion ..
  | .fastTripComparator .. | .loopFaultComparator .. | .balanceEvaluation | .minimumOnTimerExpiry
  | .minimumOffTimerExpiry | .runFeedbackChange .. | .compressorStartMonitorExpiry | .tachPulse .. | .tachWindowEnd
  | .retryTimerExpiry | .pwmPeriodStart | .smokeLoopBandChange .. | .smokeLoopPersistenceExpiry ..
  | .contactTerminalChange .. | .contactInputSettled .. | .heatRiseSample | .hazardFirstEvaluation
  | .escalationTimerExpiry | .fallBackTimerExpiry | .quietTimerExpiry | .countdownEnd | .dischargeConfirmationExpiry
  | .lockoutWriteStart | .lockoutRetryExpiry | .maintenanceClear | .setpointPeriod | .gridHealthyDelayReached
  | .prechargeTimeout | .readyTimeout | .rideThroughExpired | .disconnectWaitExpiry | .visibilityTimerExpiry
  | .retryDelayExpiry | .receiverIdleReached | .receiveFault .. | .frameComplete .. | .transmitStart | .deferral
  | .collision | .frameSent | .errorWindowEnd | .peerAgeingTick | .stalenessTimerExpiry | .listeningTimerExpiry
  | .learningTimerExpiry | .statusTimerExpiry | .askOneSecondCheck | .askThirtySecondCheck | .holdLimitExpiry
  | .backoffExpiry | .lampFlashTick .. | .characterTaken .. => true

end Sys2Proof
end

