-- ==== Sys2Proof/Tests/Slice0.lean ====
section
/-! SUPPORT. Tests: ill-formed commands refused, the CRC's check value, one step per command with the result the spec gives (the rule
is named beside each), and for each statement with hypotheses a concrete state that meets them. -/

set_option Elab.async false

namespace Sys2Proof.Tests

open Sys2Proof.Machine

/-! ## Helpers -/

/-- The command answers a next state of which `p` holds. -/
def gives (c : Instr) (s : State) (p : State → Bool) : Bool :=
  match exec c s with
  | .next t => p t
  | _ => false

/-- A CONFIGURED part of station 5 that runs, its line quiet, its key switch active and settled. -/
def up : State :=
  { State.reset with
    loader := { LoaderState.reset .running 5 with startKind := some .configured, uptime := 7 }
    line := { LineState.reset with rx := .hunt, idle := 12, window := some 0 }
    peers := { PeerState.reset with huntSeen := true, ageing := some 0 }
    balance := { BalanceState.reset with evalTimer := some 0 }
    hazard := { State.reset.hazard with evaluated := true, sampleTimer := some 0 }
    limit := { LimitState.reset with period := some 0 }
    key := ⟨true, true, none⟩ }

/-- A report of module 1 in round 1: 20 cells of `mv`, and the first sensor at `temp`. -/
def report (mv : Nat) (temp : Int) : ModuleReport := ⟨1, 1, List.replicate 20 mv, 20 * mv, 1, mv, [temp, 250, 250, 250], true⟩

/-- A report of module `n` in round 1: 20 cells of 3300 mV. -/
def goodReport (n : Nat) : ModuleReport := { report 3300 250 with n := n }

/-- A healthy answer to frame 0. -/
def goodAnswer : ConverterAnswer := ⟨true, 0, .healthy, 1000000, 0, false, false⟩

def up.withConn (f : ConnState → ConnState) : State := { up with conn := f up.conn }
def up.withHazard (f : HazardState → HazardState) : State := { up with hazard := f up.hazard }
def up.withThermal (f : ThermalState → ThermalState) : State := { up with thermal := f up.thermal }
def up.withLine (f : LineState → LineState) : State := { up with line := f up.line }
def up.withPeers (f : PeerState → PeerState) : State := { up with peers := f up.peers }
def up.withPermit (f : PermitState → PermitState) : State := { up with permit := f up.permit }
def up.withScan (f : ScanState → ScanState) : State := { up with scan := f up.scan }

/-- Connected, with the outputs of that state and frame 0 sent. -/
def connected : State :=
  up.withConn fun c => { c with
    phase := .connected, drives := ⟨true, false, true, true⟩, linkUp := true, misses := 0, lastFrame := some (0, 0) }

/-- Round 1 in flight: the window of module 1 stands open, and the request of module 2 is on the chain. -/
def inRound : State :=
  up.withScan fun x => { x with
    roundNumber := 1, request := some ⟨2, 1, 1, []⟩
    round := some ⟨false, List.replicate 16 [], .opened :: List.replicate 15 .notSent⟩ }

/-- Round 1 in flight, and module 1 has missed two rounds. -/
def missedTwice : State :=
  { inRound with scan := { inRound.scan with modules := changeAt (fun m => { m with missCount := 2 }) 0 inRound.scan.modules } }

/-- The content of a lockout record of ALARM at uptime 7. -/
def alarmContent : LockoutContent := ⟨some .alarm, .member .manual, 7⟩

/-- A lockout write of that content into the first slot is in progress. -/
def writing : State := { up with loader := { up.loader with writing := some ⟨false, 0, alarmContent⟩, writeTimer := some 9 } }

/-- A GRANT of tag 3 from station 9 to station 5. -/
def grantChars : List Byte := frameChars 9 5 6 [3#8]

/-- All of that GRANT but its last character has been received. -/
def receivingGrant : State := up.withLine fun l => { l with rx := .receiving, rxBuf := grantChars.take 8 }

/-- A STATUS waits to be sent on a line of this idle count. -/
def waitingStatus (idle : Nat) : State :=
  up.withLine fun l => { l with tx := .waiting, inHand := some .routine, routine := [.status], idle := idle }

/-- A STATUS is being sent. -/
def sendingStatus : State := up.withLine fun l => { l with tx := .sending, inHand := some .routine, routine := [.status], txBytes := [0xA5#8] }

/-- The grid is healthy and the reconnection delay has not been reached. -/
def awaitingGrid (s : State) : State := { s with conn := { s.conn with gridTimer := some 299999 } }

/-- Asking, with the peers awaited and those that deferred; station 9 is PRESENT. -/
def asking (awaited deferredBy : List Nat) : State :=
  { (up.withPeers fun p => { p with entries := changeAt (fun e => { e with presence := .present }) 8 p.entries }) with
    permit := { up.permit with
      phase := .asking, ask := some 1000, queue := [⟨.precharge, 0⟩], awaited := awaited, deferredBy := deferredBy } }

/-- Holding the permit for a pre-charge. -/
def holding : State :=
  { (up.withConn fun c => { c with phase := .precharging, drives := ⟨true, true, false, false⟩, stateTimer := some 4000 }) with
    permit := { up.permit with phase := .holding, hold := some 20000, served := some ⟨.precharge, 0⟩ } }

/-! ## Well-formedness -/

theorem test_report_of_19_cells : (Instr.moduleReport { goodReport 1 with cells := List.replicate 19 3300 }).wellFormed = false := by decide
theorem test_report_of_3_temps : (Instr.moduleReport { goodReport 1 with temps := [250, 250, 250] }).wellFormed = false := by decide
theorem test_report_well_formed : (Instr.moduleReport (goodReport 1)).wellFormed = true := by decide
theorem test_window_0 : (Instr.answerWindowExpiry 0).wellFormed = false := by decide
theorem test_window_17 : (Instr.answerWindowExpiry 17).wellFormed = false := by decide
theorem test_answer_echo_256 : (Instr.converterAnswer { goodAnswer with seqEcho := 256 }).wellFormed = false := by decide
theorem test_answer_dc_link : (Instr.converterAnswer { goodAnswer with dcLink := 2000001 }).wellFormed = false := by decide
theorem test_slot_of_15_bytes : (Instr.lockoutWriteCompletion true (List.replicate 15 0)).wellFormed = false := by decide
theorem test_ppm_1001 : (Instr.gasLevelComparator .a .l1 1001).wellFormed = false := by decide

/-! ## CRC and words -/

/-- R118: the CRC of the characters "123456789" is 29B1h. -/
theorem test_crc_check_value : crc16 [0x31, 0x32, 0x33, 0x34, 0x35, 0x36, 0x37, 0x38, 0x39] = 0x29B1#16 := by decide +kernel

/-- R116: A5h on the line: space, 1010 0101, mark. -/
theorem test_character_bits :
    characterBits 0xA5#8 = [false, true, false, true, false, false, true, false, true, true] := by decide

/-- R120: a gateway's PRESENT has no modules. -/
theorem test_gateway_present :
    decodeMessage 1 [2, 0x12, 0x34, 0, 0, 0] = some (.present .gateway ⟨0x1234, 0, 0⟩)
      ∧ decodeMessage 1 [2, 0x12, 0x34, 1, 0, 0] = none := by decide +kernel

/-- R168, R185: before the first frame the sequence number of the record is 0. -/
theorem test_connection_record : (connectionPart1 (Work.start up)).take 5 = [1, 5, 0, 0xFF, 0xFF] := by decide +kernel

theorem test_no_word_spells_a_command : decodeTableWord 16 0x1234 = none := by decide

/-! ## One step per command -/

/-- R168, R169, R186: the outputs open in the order enable, main positive, main negative. -/
theorem test_power_on :
    gives (.powerOn 5#5) connected
      (fun t => decide (t.conn.phase = .opened ∧ t.conn.drives = ⟨false, false, false, false⟩ ∧ t.loader.straps = 5
        ∧ t.conn.switching = [(.enable, false), (.mainPositive, false), (.mainNegative, false)])) = true := by
  decide +kernel

/-- R186: 31 is no station number. -/
theorem test_power_on_listen_only :
    gives (.powerOn 31#5) up
      (fun t => t.loader.listenOnly) = true := by
  decide +kernel

/-- R168. -/
theorem test_reset_input :
    gives .resetInput connected
      (fun t => decide (t.loader.phase = .held ∧ t.conn.drives = ⟨false, false, false, false⟩)) = true := by
  decide +kernel

/-- R186, R192. -/
theorem test_reset_release :
    gives (.resetRelease 9#5) { up with loader := .reset .held 5 }
      (fun t => decide (t.loader.straps = 9 ∧ t.loader.uptime = 0)) = true := by
  decide +kernel

set_option maxRecDepth 20000 in
/-- R187, R190: a memory that does not answer. -/
theorem test_loader_finish_silent :
    gives (.loaderFinish false) { up with loader := .reset .loading 5 }
      (fun t => decide (t.loader.startKind = some .unconfigured ∧ t.loader.memoryFault = true)) = true := by
  decide +kernel

/-- R192. -/
theorem test_uptime :
    gives .uptimeSecond up
      (fun t => decide (t.loader.uptime = 8)) = true := by
  decide +kernel

/-- R192. -/
theorem test_uptime_saturates :
    gives .uptimeSecond { up with loader := { up.loader with uptime := 4294967295 } }
      (fun t => decide (t.loader.uptime = 4294967295)) = true := by
  decide +kernel

/-- R1. -/
theorem test_scan_round_start :
    gives .scanRoundStart up
      (fun t => decide (t.scan.roundNumber = 1 ∧ t.scan.request = some ⟨1, 1, 1, []⟩)) = true := by
  decide +kernel

/-- R1. -/
theorem test_scan_round_wraps :
    gives .scanRoundStart (up.withScan fun x => { x with roundNumber := 65535 })
      (fun t => decide (t.scan.roundNumber = 0)) = true := by
  decide +kernel

/-- R1: the request of module 2 has been sent. -/
theorem test_module_request_sent :
    gives .moduleRequestSent inRound
      (fun t => decide (t.scan.request = some ⟨3, 1, 1, []⟩)) = true := by
  decide +kernel

/-- R2. -/
theorem test_module_report :
    gives (.moduleReport (goodReport 1)) inRound
      (fun t => decide ((t.scan.modules.getD 0 .reset).hasData = true ∧ (t.scan.modules.getD 0 .reset).total = 66000)) = true := by
  decide +kernel

/-- R2: the report of another round is discarded. -/
theorem test_module_report_old_round :
    gives (.moduleReport { goodReport 1 with roundEcho := 0 }) inRound
      (fun t => decide ((t.scan.modules.getD 0 .reset).hasData = false)) = true := by
  decide +kernel

/-- R3, R18. -/
theorem test_window_third_miss :
    gives (.answerWindowExpiry 1) missedTwice
      (fun t => decide ((t.scan.modules.getD 0 .reset).check = .lost ∧ t.scan.visibilityLost = true)) = true := by
  decide +kernel

/-- R21. -/
theorem test_current_over_range :
    gives (.currentConversion 12000) up
      (fun t => decide (t.analog.sample = 10000 ∧ t.analog.overRange = true)) = true := by
  decide +kernel

/-- R29: 10.0 A for 10 ms take 100 mAs. -/
theorem test_current_integrates :
    gives (.currentConversion 100) { up with charge := { up.charge with condition := .counting, q := 1000000 } }
      (fun t => decide (t.charge.q = 999900)) = true := by
  decide +kernel

/-- R31: 280 Ah are 1008000000 mAs. -/
theorem test_calibration_at_full :
    gives .calibrationAtFull { up with charge := { up.charge with fullTimer := some 30000 } }
      (fun t => decide (t.charge.q = 1008000000 ∧ t.charge.soc = 1000)) = true := by
  decide +kernel

/-- R23: 12.00 mA are half of the span. -/
theorem test_gas_loop_conversion :
    gives (.gasLoopConversion 1200 2600) up
      (fun t => decide (t.analog.gasA = ⟨1200, 500⟩ ∧ t.analog.gasB = ⟨2500, 1000⟩)) = true := by
  decide +kernel

/-- R25. -/
theorem test_temperature_conversion :
    gives (.temperatureConversion 250 1251 (-400)) up
      (fun t => decide (t.analog.inlet = ⟨some 250, false⟩ ∧ t.analog.outlet = ⟨none, true⟩ ∧ t.analog.ambient = ⟨some (-400), false⟩)) = true := by
  decide +kernel

/-- R22, R181: code 80 trips at 400.0 A. -/
theorem test_fast_trip :
    gives (.fastTripComparator .discharge 4000) connected
      (fun t => decide (t.conn.phase = .tripped ∧ t.conn.tripDischarge = true ∧ t.conn.drives = ⟨false, false, false, false⟩)) = true := by
  decide +kernel

/-- R22. -/
theorem test_fast_trip_below :
    gives (.fastTripComparator .charge (-3999)) connected
      (fun t => decide (t.conn.phase = .connected)) = true := by
  decide +kernel

/-- R24, R71, R72. -/
theorem test_gas_level :
    gives (.gasLevelComparator .a .l1 50) up
      (fun t => decide (t.hazard.set = [.gasAL1] ∧ t.hazard.level = .watch)) = true := by
  decide +kernel

/-- R24, R71, R72. -/
theorem test_gas_level_2 :
    gives (.gasLevelComparator .b .l2 200) up
      (fun t => decide (t.hazard.set = [.gasBL2] ∧ t.hazard.level = .preAlarm)) = true := by
  decide +kernel

/-- R23, R67, R71. -/
theorem test_loop_fault :
    gives (.loopFaultComparator .a 359) up
      (fun t => decide (t.hazard.set = [.gasAFault] ∧ t.hazard.level = .watch)) = true := by
  decide +kernel

/-- R37. -/
theorem test_balance_evaluation :
    gives .balanceEvaluation up
      (fun t => decide (t.balance.result = .idleVoltage ∧ t.balance.evalTimer = some 0)) = true := by
  decide +kernel

/-- R47. -/
theorem test_minimum_on_expiry :
    gives .minimumOnTimerExpiry (up.withThermal fun x => { x with minOn := some 180000 })
      (fun t => decide (t.thermal.minOn = none)) = true := by
  decide +kernel

/-- R47, R50. -/
theorem test_minimum_off_expiry :
    gives .minimumOffTimerExpiry (up.withThermal fun x => { x with forced := .coolForced, minOff := some 300000 })
      (fun t => decide (t.thermal.compressor = true ∧ t.thermal.minOn = some 0 ∧ t.thermal.monitor = some 0)) = true := by
  decide +kernel

/-- R55. -/
theorem test_run_feedback :
    gives (.runFeedbackChange true) (up.withThermal fun x => { x with compressor := true, monitor := some 500 })
      (fun t => decide (t.thermal.confirmed = true ∧ t.thermal.monitor = none)) = true := by
  decide +kernel

/-- R55, R58. -/
theorem test_start_monitor_expiry :
    gives .compressorStartMonitorExpiry (up.withThermal fun x => { x with compressor := true, monitor := some 10000 })
      (fun t => decide (t.thermal.compressorFailed = true ∧ t.thermal.compressor = false ∧ t.limit.thermalDerate = 600)) = true := by
  decide +kernel

/-- R54. -/
theorem test_tach_pulse :
    gives (.tachPulse .fan2) up
      (fun t => decide (t.thermal.fan2.pulses = 1 ∧ t.thermal.fan1.pulses = 0)) = true := by
  decide +kernel

/-- R54, R58: a fifth window of 9 pulses. -/
theorem test_tach_window_end :
    gives .tachWindowEnd (up.withThermal fun x => { x with pump := ⟨40, 40, 9, false, 4, 0, false⟩ })
      (fun t => decide (t.thermal.pump.failed = true ∧ t.thermal.derate = 0)) = true := by
  decide +kernel

/-- R61: no summary, so no evaluation wants the stage (log entry 23). -/
theorem test_retry_expiry :
    gives .retryTimerExpiry (up.withThermal fun x => { x with need := .retry, wanted := some .cool1, retry := some 10000 })
      (fun t => decide (t.thermal.need = .none ∧ t.thermal.wanted = none)) = true := by
  decide +kernel

/-- R53. -/
theorem test_pwm_period :
    gives .pwmPeriodStart (up.withThermal fun x => { x with pump := { x.pump with dutySet := 40 } })
      (fun t => decide (t.thermal.pump.duty = 40)) = true := by
  decide +kernel

/-- R65. -/
theorem test_smoke_band :
    gives (.smokeLoopBandChange .a 1199) up
      (fun t => decide (t.hazard.smokeA.band = .alarmBand ∧ t.hazard.smokeA.timer = some 0 ∧ t.hazard.set = [])) = true := by
  decide +kernel

/-- R65, R71: one smoke loop alone gives WATCH. -/
theorem test_smoke_persistence :
    gives (.smokeLoopPersistenceExpiry .b) (up.withHazard fun x => { x with smokeB := ⟨.alarmBand, .normal, some 1000⟩ })
      (fun t => decide (t.hazard.set = [.smokeB] ∧ t.hazard.level = .watch)) = true := by
  decide +kernel

/-- R66. -/
theorem test_terminal_change :
    gives (.contactTerminalChange .hold true) up
      (fun t => decide (t.hazard.hold = ⟨true, false, some 0⟩)) = true := by
  decide +kernel

/-- R66, R71, R182. -/
theorem test_call_point_settles :
    gives (.contactInputSettled .callPoint) (up.withHazard fun x => { x with callPoint := ⟨true, false, some 100⟩ })
      (fun t => decide (t.hazard.set = [.manual] ∧ t.hazard.level = .alarm ∧ t.conn.phase = .locked)) = true := by
  decide +kernel

/-- R81. -/
theorem test_discharged_settles :
    gives (.contactInputSettled .discharged) (up.withHazard fun x => { x with dischargedInput := ⟨true, false, some 100⟩ })
      (fun t => decide (t.hazard.level = .discharged ∧ t.hazard.release = false)) = true := by
  decide +kernel

/-- R69: the new sample is empty without a summary. -/
theorem test_heat_rise :
    gives .heatRiseSample (up.withHazard fun x => { x with rings := [[some 250, some 260, some 260], [some 250, none, some 270]] ++ List.replicate 14 [] })
      (fun t => decide (.heatRise ∉ t.hazard.set ∧ t.hazard.rings.getD 0 [] = [some 260, some 260, none])) = true := by
  decide +kernel

/-- R71 to R73. -/
theorem test_first_evaluation :
    gives .hazardFirstEvaluation (up.withHazard fun x => { x with evaluated := false, firstEval := some 2000, set := [.smokeA, .gasAFault] })
      (fun t => decide (t.hazard.level = .preAlarm ∧ t.hazard.escalation = some 0)) = true := by
  decide +kernel

/-- R73, R78, R182. -/
theorem test_escalation :
    gives .escalationTimerExpiry (up.withHazard fun x => { x with level := .preAlarm, set := [.heatHigh], escalation := some 300000 })
      (fun t => decide (t.hazard.level = .alarm ∧ t.hazard.countdown = 30000 ∧ t.conn.phase = .locked)) = true := by
  decide +kernel

/-- R73, R74. -/
theorem test_fall_back :
    gives .fallBackTimerExpiry (up.withHazard fun x => { x with level := .preAlarm, fallBack := some 60000 })
      (fun t => decide (t.hazard.level = .watch ∧ t.hazard.quiet = some 0)) = true := by
  decide +kernel

/-- R74. -/
theorem test_quiet :
    gives .quietTimerExpiry (up.withHazard fun x => { x with level := .watch, quiet := some 60000 })
      (fun t => decide (t.hazard.level = .clear)) = true := by
  decide +kernel

/-- R79. -/
theorem test_countdown_end :
    gives .countdownEnd (up.withHazard fun x => { x with level := .alarm, set := [.manual] })
      (fun t => decide (t.hazard.level = .releasing ∧ t.hazard.release = true ∧ t.hazard.confirm = some 0)) = true := by
  decide +kernel

/-- R78: HOLD pauses the countdown. -/
theorem test_countdown_held :
    gives .countdownEnd (up.withHazard fun x => { x with level := .alarm, hold := ⟨true, true, none⟩ })
      (fun t => decide (t.hazard.level = .alarm ∧ t.hazard.release = false)) = true := by
  decide +kernel

/-- R80. -/
theorem test_discharge_confirmation :
    gives .dischargeConfirmationExpiry (up.withHazard fun x => { x with level := .releasing, release := true, confirm := some 10000 })
      (fun t => decide (t.hazard.releaseFault = true ∧ t.hazard.level = .releasing)) = true := by
  decide +kernel

/-- R83: without an image the first slot and the number 0. -/
theorem test_lockout_write_start :
    gives .lockoutWriteStart { up with loader := { up.loader with writeStore := some alarmContent } }
      (fun t => decide (t.loader.writing = some ⟨false, 0, alarmContent⟩)) = true := by
  decide +kernel

/-- R82, R84, R85. -/
theorem test_lockout_write_completion :
    gives (.lockoutWriteCompletion true (slotBytes ⟨false, 0, alarmContent⟩)) writing
      (fun t => decide (t.hazard.image = some ⟨false, 0, alarmContent⟩ ∧ imageOf t.mem = t.hazard.image)) = true := by
  decide +kernel

/-- R84, R191: a write that is not acknowledged, and one whose readback is complete only after 10 ms. -/
theorem test_lockout_write_failure :
    gives (.lockoutWriteCompletion false (slotBytes ⟨false, 0, alarmContent⟩)) writing
      (fun t => decide (t.hazard.writeFault = true ∧ t.hazard.image = none ∧ t.hazard.retry = some 0)) = true
    ∧ gives (.lockoutWriteCompletion true (slotBytes ⟨false, 0, alarmContent⟩))
        { writing with loader := { writing.loader with writeTimer := some 10 } }
        (fun t => decide (t.hazard.writeFault = true ∧ t.hazard.image = none)) = true := by
  decide +kernel

/-- R84. -/
theorem test_lockout_retry :
    gives .lockoutRetryExpiry (up.withHazard fun x => { x with retry := some 1000, retryContent := some alarmContent })
      (fun t => decide (t.loader.writeStore = some alarmContent)) = true := by
  decide +kernel

/-- R90, R195. -/
theorem test_maintenance_clear :
    gives .maintenanceClear { (up.withHazard fun x => { x with level := .releasing, release := true }) with key := ⟨true, false, some 100⟩ }
      (fun t => decide (t.hazard.level = .clear ∧ t.hazard.release = false ∧ t.loader.writeStore = some ⟨none, .none, 7⟩)) = true := by
  decide +kernel

/-- R90: an indication is present. -/
theorem test_key_settles_with_indication :
    gives (.contactInputSettled .keySwitch) { (up.withHazard fun x => { x with level := .alarm, set := [.manual] }) with key := ⟨true, false, some 100⟩ }
      (fun t => decide (t.hazard.level = .alarm)) = true := by
  decide +kernel

/-- R110, R170: a ramp of 200 kW/s takes 20 kW in a period. -/
theorem test_setpoint_period :
    gives .setpointPeriod { connected with peers := { connected.peers with dispatch := ⟨.current, some 12, 0, 200, some .run, some 0⟩ }, limit := { up.limit with setpoint := 50, cDis := 250 }, conn := { connected.conn with answered := true } }
      (fun t => decide (t.limit.setpoint = 30 ∧ t.conn.seq = 1 ∧ t.conn.lastFrame = some (1, 30))) = true := by
  decide +kernel

/-- R171, R181. -/
theorem test_link_lost :
    gives .setpointPeriod { connected with conn := { connected.conn with misses := 4 } }
      (fun t => decide (t.conn.linkUp = false ∧ t.conn.phase = .tripped ∧ t.conn.lastFrame = some (1, 0))) = true := by
  decide +kernel

/-- R176. -/
theorem test_converter_answer_ready :
    gives (.converterAnswer { goodAnswer with ready := true }) (up.withConn fun c => { c with phase := .dcClosed, lastFrame := some (0, 0), drives := ⟨true, false, true, true⟩ })
      (fun t => decide (t.conn.phase = .connected ∧ t.conn.failures = 0)) = true := by
  decide +kernel

/-- R171: the answer to another frame is discarded. -/
theorem test_converter_answer_echo :
    gives (.converterAnswer { goodAnswer with seqEcho := 1, fault := true }) connected
      (fun t => decide (t.conn.phase = .connected ∧ t.conn.lastAnswer = none)) = true := by
  decide +kernel

/-- R172. -/
theorem test_grid_delay :
    gives .gridHealthyDelayReached (awaitingGrid connected)
      (fun t => decide (t.conn.gridReached = true ∧ t.conn.gridTimer = some 300000)) = true := by
  decide +kernel

/-- R175, R177, R183: the third failure in a row. -/
theorem test_precharge_timeout :
    gives .prechargeTimeout (up.withConn fun c => { c with phase := .precharging, drives := ⟨true, true, false, false⟩, stateTimer := some 5000, failures := 2 })
      (fun t => decide (t.conn.phase = .locked ∧ t.conn.locks.failures = true)) = true := by
  decide +kernel

/-- R176, R177. -/
theorem test_ready_timeout :
    gives .readyTimeout (up.withConn fun c => { c with phase := .dcClosed, drives := ⟨true, false, true, true⟩, stateTimer := some 2000 })
      (fun t => decide (t.conn.phase = .tripped ∧ t.conn.failures = 1)) = true := by
  decide +kernel

/-- R179. -/
theorem test_ride_through_expired :
    gives .rideThroughExpired (up.withConn fun c => { c with phase := .rideThrough, drives := ⟨true, false, true, true⟩, stateTimer := some 5000 })
      (fun t => decide (t.conn.phase = .opened ∧ t.conn.drives = ⟨false, false, false, false⟩)) = true := by
  decide +kernel

/-- R180. -/
theorem test_disconnect_wait :
    gives .disconnectWaitExpiry (up.withConn fun c => { c with phase := .disconnecting, drives := ⟨true, false, true, true⟩, stateTimer := some 5000, exitPending := some .stop })
      (fun t => decide (t.conn.phase = .opened)) = true := by
  decide +kernel

/-- R180. -/
theorem test_visibility_timer :
    gives .visibilityTimerExpiry { connected with conn := { connected.conn with visibilityTimer := some 5000 } }
      (fun t => decide (t.conn.phase = .disconnecting)) = true := by
  decide +kernel

/-- R181. -/
theorem test_retry_delay :
    gives .retryDelayExpiry (up.withConn fun c => { c with phase := .tripped, stateTimer := some 60000 })
      (fun t => decide (t.conn.phase = .opened)) = true := by
  decide +kernel

/-- R121: a frame that ends early is one line error. -/
theorem test_receiver_idle :
    gives .receiverIdleReached (up.withLine fun l => { l with rx := .receiving, rxBuf := [0xA5#8] })
      (fun t => decide (t.line.rx = .hunt ∧ t.line.rxBuf = [] ∧ t.line.errors = 1)) = true := by
  decide +kernel

/-- R121, R133. -/
theorem test_receive_fault :
    gives (.receiveFault .badStopBit) (up.withLine fun l => { l with rx := .receiving })
      (fun t => decide (t.line.rx = .discard ∧ t.line.errors = 1)) = true := by
  decide +kernel

/-- R121. -/
theorem test_character_begins_frame :
    gives (.characterTaken 0xA5#8) up
      (fun t => decide (t.line.rx = .receiving ∧ t.line.rxBuf = [0xA5#8])) = true := by
  decide +kernel

/-- R117, R118, R137: the last character of a GRANT from station 9. -/
theorem test_character_last :
    gives (.characterTaken (grantChars.getD 8 0)) receivingGrant
      (fun t => decide (t.line.rx = .hunt ∧ (t.peers.entries.getD 8 .reset).presence = .present)) = true := by
  decide +kernel

/-- R117, R118, R137. -/
theorem test_frame_complete :
    gives (.frameComplete (grantChars.getD 8 0)) receivingGrant
      (fun t => decide (t.line.rx = .hunt ∧ t.line.errors = 0 ∧ (t.peers.entries.getD 8 .reset).age = 0)) = true := by
  decide +kernel

/-- R118, R133. -/
theorem test_frame_bad_check :
    gives (.frameComplete (~~~(grantChars.getD 8 0))) receivingGrant
      (fun t => decide (t.line.errors = 1 ∧ (t.peers.entries.getD 8 .reset).presence = .empty)) = true := by
  decide +kernel

/-- R117, R124, R125: a STATUS is 21 characters; station 5 may start it after 208 + 2 × 5 bit-times, and not before. -/
theorem test_transmit_start :
    gives .transmitStart (waitingStatus 218)
      (fun t => decide (t.line.tx = .sending ∧ t.line.txBytes.length = 21 ∧ t.line.txBytes.take 6 = [0xA5, 0x3C, 5, 31, 2, 13]))
      = true
    ∧ gives .transmitStart (waitingStatus 217) (fun t => decide (t.line.tx = .waiting)) = true := by
  decide +kernel

/-- R121, R126: the start bit that took the line begins a frame. -/
theorem test_deferral_eighth :
    gives .deferral (up.withLine fun l => { l with tx := .waiting, inHand := some .routine, routine := [.status], deferrals := 7 })
      (fun t => decide (t.line.deferrals = 8 ∧ t.line.promoted = true ∧ t.line.rx = .receiving ∧ t.line.errors = 0)) = true := by
  decide +kernel

/-- R127. -/
theorem test_collision :
    gives .collision sendingStatus
      (fun t => decide (t.line.routine = [.status] ∧ t.line.bars.routine = true ∧ t.line.rx = .discard)) = true := by
  decide +kernel

/-- R125, R128. -/
theorem test_frame_sent :
    gives .frameSent sendingStatus
      (fun t => decide (t.line.routine = [] ∧ t.line.deferrals = 0 ∧ t.line.tx = .idle)) = true := by
  decide +kernel

/-- R133. -/
theorem test_error_window :
    gives .errorWindowEnd (up.withLine fun l => { l with errors := 20 })
      (fun t => decide (t.line.degraded = true ∧ t.line.errors = 0)) = true := by
  decide +kernel

/-- R138. -/
theorem test_peer_ageing :
    gives .peerAgeingTick (up.withPeers fun p => { p with entries := changeAt (fun e => { e with presence := .present, age := 29 }) 3 p.entries })
      (fun t => decide ((t.peers.entries.getD 3 .reset).presence = .silent ∧ (t.peers.entries.getD 3 .reset).age = 30)) = true := by
  decide +kernel

/-- R143. -/
theorem test_staleness :
    gives .stalenessTimerExpiry (up.withPeers fun p => { p with dispatch := ⟨.current, some 12, 100, 200, some .run, some 10000⟩ })
      (fun t => decide (t.peers.dispatch.condition = .stale)) = true := by
  decide +kernel

/-- R144. -/
theorem test_listening :
    gives .listeningTimerExpiry (up.withPeers fun p => { p with listening := some 1000 })
      (fun t => decide (t.peers.service = .announcing ∧ t.line.routine = [.present])) = true := by
  decide +kernel

/-- R145. -/
theorem test_learning :
    gives .learningTimerExpiry (up.withPeers fun p => { p with service := .learning, learning := some 3000 })
      (fun t => decide (t.peers.service = .inService)) = true := by
  decide +kernel

/-- R146. -/
theorem test_status_timer :
    gives .statusTimerExpiry (up.withPeers fun p => { p with service := .inService, status := some 1000 })
      (fun t => decide (t.line.routine = [.status] ∧ t.peers.status = some 0)) = true := by
  decide +kernel

/-- R155: a PRESENT peer has not answered. -/
theorem test_ask_one_second :
    gives .askOneSecondCheck (asking [9] [])
      (fun t => decide (t.permit.phase = .backoff ∧ t.permit.waits = 1)) = true := by
  decide +kernel

/-- R156: a PRESENT peer has deferred. -/
theorem test_ask_thirty_seconds :
    gives .askThirtySecondCheck (asking [] [9])
      (fun t => decide (t.permit.phase = .backoff)) = true := by
  decide +kernel

/-- R158, R177. -/
theorem test_hold_limit :
    gives .holdLimitExpiry holding
      (fun t => decide (t.permit.served = none ∧ t.conn.phase = .tripped ∧ t.conn.failures = 1)) = true := by
  decide +kernel

/-- R162. -/
theorem test_backoff :
    gives .backoffExpiry (up.withPermit fun p => { p with phase := .backoff, backoff := some 2500 })
      (fun t => decide (t.permit.phase = .idle)) = true := by
  decide +kernel

/-- R196. -/
theorem test_lamp_flash :
    gives (.lampFlashTick .run) { (up.withPeers fun p => { p with service := .inService }) with lamps := { Lamps.reset with run := ⟨.flash1, true⟩ } }
      (fun t => decide (t.lamps.run = ⟨.flash1, false⟩)) = true := by
  decide +kernel

/-! ## Witnesses: states that meet the hypotheses of each statement -/

/-! ### Steps, invariants and rules over all commands -/

theorem witness_StepRunsFrontCommand :
    ∃ s : State, s.pending = .uptimeSecond :: [] :=
  ⟨{ up with pending := [.uptimeSecond] }, rfl⟩

theorem witness_IdleMillisecond :
    ∃ s : State, s.pending = [] ∧ s.hazard.escalation = some 299999 :=
  ⟨up.withHazard fun x => { x with escalation := some 299999 }, rfl, rfl⟩

theorem witness_IdleMillisecond_countdown :
    ∃ s : State, s.pending = [] ∧ s.hazard.escalation = none ∧ s.hazard.level = .alarm ∧ s.hazard.hold.taken = false
      ∧ s.hazard.door.taken = false :=
  ⟨up.withHazard fun x => { x with level := .alarm, countdown := 1 }, rfl, rfl, rfl, rfl, rfl⟩

theorem witness_IdleMillisecond_stateTimer (p : ConnPhase) :
    ∃ s : State, s.pending = [] ∧ s.conn.phase = p ∧ s.conn.stateTimer = some 1999 :=
  ⟨up.withConn fun c => { c with phase := p, stateTimer := some 1999 }, rfl, rfl, rfl⟩

theorem witness_OnlyLockoutAreaWritten :
    ∃ s t : State, (s.MemoryCanonical ∧ s.loader.writing ≠ none) ∧ step s = .next t :=
  ⟨{ writing with pending := [.lockoutWriteCompletion true (slotBytes ⟨false, 0, alarmContent⟩)] }, _,
    ⟨by exact (by decide : Memory.wf []), by decide⟩, rfl⟩

/-- A part at ALARM, LOCKED, whose countdown is about to end. -/
def alarmed : State :=
  { (up.withConn fun c => { c with phase := .locked, locks := ⟨false, true, false⟩ }) with
    hazard := { up.hazard with level := .alarm }, pending := [.countdownEnd] }

/-- A state with the key about to be taken as turned. -/
def turning (s : State) : State := { s with key := ⟨true, false, some 100⟩ }

/-- `up` with the connection unit in a state, and the outputs of that state. -/
def inPhase (p : ConnPhase) (s : State) : State := { s with conn := { s.conn with phase := p, drives := drivesOf p } }

theorem witness_OutputsFollowState :
    ∃ s t : State, s.DrivesFollow ∧ step s = .next t :=
  ⟨{ connected with pending := [.fastTripComparator .charge (-4000)] }, _, rfl, rfl⟩

theorem witness_OutputsFollowState_release :
    ∃ s t : State, s.ReleaseFollows ∧ step s = .next t :=
  ⟨alarmed, _, rfl, rfl⟩

theorem alarmed_AlarmLocks : alarmed.AlarmLocks := ⟨fun h => absurd rfl h, fun h => absurd rfl h, fun _ _ => ⟨rfl, rfl⟩⟩

theorem witness_AlarmOpensEverything :
    ∃ s t : State, s.AlarmLocks ∧ step s = .next t :=
  ⟨alarmed, _, alarmed_AlarmLocks, rfl⟩

theorem witness_AlarmOpensEverything_open : ∃ s : State, s.AlarmLocks ∧ s.DrivesFollow ∧ s.hazard.level.isAlarm = true :=
  ⟨alarmed, alarmed_AlarmLocks, rfl, rfl⟩

theorem witness_HazardEmptiesBleedSets :
    ∃ s t : State, (s.HazardStopsBleeding ∧ s.hazard.level.isPre = true) ∧ step s = .next t :=
  ⟨alarmed, _, ⟨fun _ => by decide, rfl⟩, rfl⟩

theorem witness_SetpointBounded :
    ∃ s t : State, (s.SetpointRests ∧ s.conn.phase ≠ .connected) ∧ step s = .next t :=
  ⟨alarmed, _, ⟨fun _ => rfl, by decide⟩, rfl⟩

theorem witness_SetpointBounded_within :
    ∃ s t : State, (s.SetpointWithin ∧ s.limit.setpoint = 250) ∧ step s = .next t :=
  ⟨{ connected with limit := { up.limit with setpoint := 250, cDis := 250 }, pending := [.fastTripComparator .charge (-4000)] }, _, ⟨⟨by decide, by decide⟩, rfl⟩, rfl⟩

theorem witness_CapabilityZeroInDanger_derates :
    ∃ s t : State, s.DeratesFollow ∧ step s = .next t :=
  ⟨{ up with pending := [.tachWindowEnd] }, _, ⟨by decide, by decide, by decide, by decide⟩, rfl⟩

theorem witness_CapabilityZeroInDanger_capabilities :
    ∃ s t : State, s.CapabilityFollows ∧ step s = .next t :=
  ⟨{ up with pending := [.tachWindowEnd] }, _, ⟨fun h => absurd rfl h, by decide, by decide⟩, rfl⟩

/-- VISIBILITY_LOST with its derate, after a summary of full power. -/
def unseen : State :=
  { (up.withScan fun x => { x with visibilityLost := true }) with
    limit := { up.limit with summaryPresent := true, pDis := 200, pChg := 200, visibility := 0 } }

theorem witness_CapabilityZeroInDanger_visibility :
    ∃ s : State, s.CapabilityFollows ∧ s.DeratesFollow ∧ s.scan.visibilityLost = true ∧ s.limit.pDis = 200 :=
  ⟨unseen, ⟨fun h => absurd rfl h, by decide, by decide⟩, ⟨by decide, by decide, by decide, by decide⟩, rfl, rfl⟩

theorem witness_CapabilityZeroInDanger_hazard :
    ∃ s : State, s.CapabilityFollows ∧ s.DeratesFollow ∧ s.hazard.level.isPre = true :=
  ⟨{ (up.withHazard fun x => { x with level := .preAlarm }) with limit := { up.limit with hazardDerate := 0 } },
    ⟨fun h => absurd rfl h, by decide, by decide⟩, ⟨by decide, by decide, by decide, by decide⟩, rfl⟩

theorem up_VisibilityFollows : up.VisibilityFollows := ⟨by decide, fun h => absurd rfl h⟩

theorem witness_CapabilityZeroInDanger_visibilityFollows : ∃ s t : State, s.VisibilityFollows ∧ step s = .next t :=
  ⟨{ up with pending := [.scanRoundStart] }, _, ⟨up_VisibilityFollows.1, up_VisibilityFollows.2⟩, rfl⟩

theorem witness_ConfigurationFixed : ∃ (c : Instr) (s t : State), c.starts = false ∧ exec c s = .next t :=
  ⟨.scanRoundStart, up, _, rfl, rfl⟩

theorem witness_LatchedLevelHeld :
    ∃ (c : Instr) (s t : State), s.LatchedTimersStopped ∧ exec c s = .next t ∧ s.hazard.level.isAlarm = true :=
  ⟨.countdownEnd, alarmed, _, fun _ => ⟨rfl, rfl, rfl⟩, rfl, rfl⟩

theorem witness_LatchedLevelHeld_timers :
    ∃ (c : Instr) (s t : State), s.hazard.LevelTimersFollow ∧ exec c s = .next t ∧ s.hazard.level = .preAlarm :=
  ⟨.scanRoundStart, up.withHazard fun x => { x with level := .preAlarm, set := [.gasAL2], escalation := some 0 }, _,
    ⟨by decide, by decide, by decide, by decide⟩, rfl, rfl⟩

theorem witness_DuplicateHeld :
    ∃ (c : Instr) (s t : State), s.line.duplicate = true ∧ exec c s = .next t ∧ c.resets = false ∧ s.line.permits = []
      ∧ s.line.replies = [] ∧ s.line.routine = [] ∧ s.line.statusAgain = false :=
  ⟨.statusTimerExpiry, up.withLine fun l => { l with duplicate := true }, _, rfl, rfl, rfl, rfl, rfl, rfl, rfl⟩

theorem witness_Lamps : ∃ (c : Instr) (s t : State), exec c s = .next t ∧ s.Running ∧ s.conn.phase = .connected :=
  ⟨.scanRoundStart, connected, _, rfl, rfl, rfl⟩

theorem witness_Lamps_lit : ∃ s t : State, s.LampsLit ∧ step s = .next t :=
  ⟨{ connected with pending := [.scanRoundStart], lamps := { Lamps.reset with run := ⟨.steady, true⟩ } }, _,
    ⟨⟨by decide, by decide⟩, ⟨by decide, by decide⟩, ⟨by decide, by decide⟩⟩, rfl⟩

theorem witness_Lamps_run :
    ∃ s : State, lampsSettled (Work.start s) = true ∧ s.lamps.run.mode = .flash1 :=
  ⟨{ (up.withPeers fun p => { p with service := .inService }) with lamps := { Lamps.reset with run := ⟨.flash1, true⟩ } }, by decide +kernel, rfl⟩

theorem witness_Lamps_alert :
    ∃ s : State, lampsSettled (Work.start s) = true ∧ s.lamps.alert.mode = .flash4 :=
  ⟨{ (up.withHazard fun p => { p with neighbourAlarm := true }) with lamps := { Lamps.reset with alert := ⟨.flash4, true⟩ } }, by decide +kernel, rfl⟩

theorem witness_Lamps_fault :
    ∃ s : State, lampsSettled (Work.start s) = true ∧ s.lamps.fault.mode = .flash1 :=
  ⟨{ (up.withLine fun p => { p with degraded := true }) with lamps := { Lamps.reset with fault := ⟨.flash1, false⟩ } }, by decide +kernel, rfl⟩

/-! ### Resets and the start -/

theorem witness_ResetsAndUptime_noWrite :
    ∃ s : State, s.loader.writing = none ∧ s.conn.phase = .connected :=
  ⟨connected, rfl, rfl⟩

theorem witness_ResetsAndUptime_release :
    ∃ s : State, ¬ s.Running ∧ s.loader.phase = .held :=
  ⟨{ up with loader := .reset .held 5 }, nofun, rfl⟩

theorem witness_ResetsAndUptime_counting :
    ∃ s : State, s.loader.phase ≠ .held ∧ s.loader.uptime = 4294967295 :=
  ⟨{ up with loader := { up.loader with uptime := 4294967295 } }, by decide, rfl⟩

theorem witness_ResetTearsLockoutWrite :
    ∃ (c : Instr) (s t : State) (x : SlotWrite), c.resets = true ∧ s.MemoryCanonical ∧ s.loader.writing = some x
      ∧ exec c s = .next t :=
  ⟨.resetInput, writing, _, ⟨false, 0, alarmContent⟩, rfl, by exact (by decide : Memory.wf []), rfl, rfl⟩

/-- A memory whose station section is valid, of zeros, and whose first lockout slot holds a record of ALARM. -/
def loadedMemory : Memory :=
  Memory.writeBytes (Memory.writeBytes [] 0 (List.replicate 126 0#8 ++ crcBytes (List.replicate 126 0#8))) 1024
    (slotBytes ⟨false, 0, alarmContent⟩)

set_option maxRecDepth 20000 in
theorem witness_LoaderFinish :
    ∃ s : State, s.loader.phase = .loading ∧ areaValid (areaBytes s.mem stationArea) = false :=
  ⟨State.reset, rfl, by decide +kernel⟩

/-- R135: the first error window starts in the listen-only start too. -/
theorem test_listen_only_window :
    gives (.loaderFinish false) { State.reset with loader := LoaderState.reset .loading 31 }
      (fun t => decide (t.loader.listenOnly = true ∧ t.line.window = some 0)) = true := by
  decide +kernel

set_option maxRecDepth 20000 in
theorem witness_LoaderFinish_configured :
    ∃ s : State, s.loader.phase = .loading ∧ areaValid (areaBytes s.mem stationArea) = true :=
  ⟨{ State.reset with mem := loadedMemory }, rfl, by decide +kernel⟩

/-- An area of zeros whose check is good. -/
def validArea (a : Area) (m : Memory) : Memory :=
  Memory.writeBytes m a.first (List.replicate (a.length - 2) 0#8 ++ crcBytes (List.replicate (a.length - 2) 0#8))

set_option maxRecDepth 20000 in
/-- The clauses of `SectionsLoaded`: each of the other sections valid, and each failing its check. -/
theorem witness_LoaderFinish_sections :
    (∀ a ∈ [siteArea, analogArea, thermalArea, hazardArea], areaValid (areaBytes (validArea a loadedMemory) a) = true
      ∧ areaValid (areaBytes loadedMemory a) = false)
    ∧ ¬ orderedAt loadedMemory 28 ∧ breakpointAt loadedMemory 28 = 0 := by
  unfold orderedAt; decide +kernel

set_option maxRecDepth 20000 in
theorem witness_LoaderFinish_record :
    ∃ (s t : State) (i : LockoutImage), s.loader.phase = .loading ∧ exec (.loaderFinish true) s = .next t
      ∧ imageOf (portView true s.mem) = some i ∧ i.content.level ≠ none :=
  ⟨{ State.reset with mem := loadedMemory }, _, ⟨false, 0, alarmContent⟩, rfl, rfl, by decide +kernel, by decide⟩

theorem witness_LoaderFinish_no_record :
    ∃ s t : State, s.loader.phase = .loading ∧ exec (.loaderFinish true) s = .next t ∧ imageOf (portView true s.mem) = none :=
  ⟨State.reset, _, rfl, rfl, by decide +kernel⟩

set_option maxRecDepth 20000 in
/-- R187, R190: a station section whose check is good gives a CONFIGURED start; a record in the lockout area gives LOCKOUT and LOCKED. -/
theorem test_loader_finish_configured :
    gives (.loaderFinish true) { State.reset with mem := loadedMemory }
      (fun t => decide (t.loader.startKind = some .configured ∧ t.hazard.level = .lockout ∧ t.conn.phase = .locked)) = true := by
  decide +kernel

/-! ### The module scan -/

theorem witness_RoundAndRequests_start :
    ∃ s : State, s.Configured ∧ s.scan.round = none :=
  ⟨up, ⟨rfl, rfl⟩, rfl⟩

theorem witness_RoundAndRequests_request :
    ∃ (s : State) (r : Round) (q : ModuleRequest), s.scan.round = some r ∧ s.scan.request = some q ∧ q.n = 2 :=
  ⟨inRound, _, _, rfl, rfl, rfl⟩

/-- One module, its window open in round 1. -/
def lastWindow : State :=
  { (up.withScan fun x => { x with roundNumber := 1, round := some ⟨false, List.replicate 16 [], [.opened]⟩ }) with
    loader := { up.loader with cfg := { Settings.defaults with moduleCount := 1 } } }

theorem witness_ReportTaken_refused : acceptsReport (Work.start inRound) { goodReport 1 with checkIndex := 2 } = false := by
  decide +kernel

theorem witness_ReportTaken_accepted :
    ∃ (s : State) (r : ModuleReport) (round : Round), acceptsReport (Work.start s) r = true ∧ s.scan.round = some round
      ∧ (changeAt (fun _ => .accepted (s.scan.modules.getD (r.n - 1) .reset).readmit) (r.n - 1) round.windows).all Window.settled
        = false :=
  ⟨inRound, goodReport 1, _, by decide +kernel, rfl, by decide +kernel⟩

theorem witness_AnswerWindowMissed :
    ∃ (s : State) (i : Nat) (round : Round), s.scan.round = some round ∧ round.windows.getD i .notSent = .opened
      ∧ (changeAt (fun _ => .missed) i round.windows).all Window.settled = false :=
  ⟨missedTwice, 0, _, rfl, by decide, by decide⟩

/-- The clauses of `AnswerWindowMissed` on what becomes of the check state: LOST at the third miss, not at the first, and LOST before. -/
theorem witness_AnswerWindowMissed_lost :
    gives (.answerWindowExpiry 1) missedTwice (fun t => decide ((t.scan.modules.getD 0 .reset).check = .lost)) = true
      ∧ gives (.answerWindowExpiry 1) inRound (fun t => decide ((t.scan.modules.getD 0 .reset).check ≠ .lost)) = true
      ∧ ∃ s : State, (s.scan.modules.getD 0 .reset).check = .lost ∧ s.scan.round = inRound.scan.round :=
  ⟨by decide +kernel, by decide +kernel,
    { inRound with scan := { inRound.scan with modules := changeAt (fun m => { m with check := .lost }) 0 inRound.scan.modules } },
    rfl, rfl⟩

theorem witness_RoundCompletes :
    ∃ (c : Instr) (i : Nat) (win : Window) (records : List ModuleRecord) (s : State) (round : Round),
      (∃ r, c = .moduleReport r ∧ i = r.n - 1 ∧ acceptsReport (Work.start s) r = true
        ∧ win = .accepted (s.scan.modules.getD i .reset).readmit ∧ records = changeAt (fun m => m.take r) i s.scan.modules)
      ∧ s.scan.round = some round ∧ (changeAt (fun _ => win) i round.windows).all Window.settled = true :=
  ⟨_, 0, _, _, lastWindow, _, ⟨goodReport 1, rfl, rfl, by decide +kernel, rfl, rfl⟩, rfl, by decide +kernel⟩

theorem witness_RoundCompletes_missed :
    ∃ (c : Instr) (i : Nat) (win : Window) (s : State) (round : Round), c = .answerWindowExpiry (i + 1)
      ∧ round.windows.getD i .notSent = .opened ∧ win = .missed ∧ s.scan.round = some round
      ∧ (changeAt (fun _ => win) i round.windows).all Window.settled = true :=
  ⟨_, 0, _, lastWindow, _, rfl, rfl, rfl, rfl, by decide⟩

/-- The clauses of `RoundCompletes` on the retest and on the bleed-time credit: module 1 stays in at 44.9 °C, is out at 45.0 °C, and is not
NORMAL after its third miss; a cell that the carried set holds gains its fourth quarter. -/
theorem witness_RoundCompletes_retest :
    let s : State := { lastWindow with
      scan := { lastWindow.scan with
        round := some ⟨false, [[1]], [.opened]⟩
        modules := changeAt (fun m => { m with missCount := 2 }) 0 lastWindow.scan.modules }
      balance := { up.balance with sets := changeAt (fun _ => [1, 2]) 0 up.balance.sets
                                   quarters := changeAt (fun _ => List.replicate 20 3) 0 up.balance.quarters } }
    gives (.moduleReport (report 3300 449)) s (fun t => decide (t.balance.sets.getD 0 [] = [1, 2]
        ∧ (t.balance.seconds.getD 0 []).take 2 = [1, 0] ∧ (t.balance.quarters.getD 0 []).take 2 = [0, 3])) = true
      ∧ gives (.moduleReport (report 3300 450)) s (fun t => decide (t.balance.reasons.getD 0 .none = .hot)) = true
      ∧ gives (.answerWindowExpiry 1) s (fun t => decide (t.balance.reasons.getD 0 .none = .notNormal)) = true := by
  decide +kernel

/-- The clauses of `RoundCompletes` on the summary: of equal cells and sensors the first of the first module with data; and none of either
without data. -/
theorem witness_RoundCompletes_summary :
    let x := buildSummary 2 { up.scan with modules := .reset :: List.replicate 15 ({ ModuleRecord.reset with hasData := true }.take (report 3300 320)) }
    (x.vMin.map fun y => (y.n, y.cell)) = some (2, 1) ∧ (x.tMax.map fun y => (y.n, y.sensor)) = some (2, 1)
      ∧ (x.tMin.map fun y => (y.n, y.sensor)) = some (2, 2) ∧ (buildSummary 16 up.scan).vMax = none := by
  decide +kernel

/-- R4, R17: the report of the only module completes the round and publishes the first summary. -/
theorem test_round_completes :
    gives (.moduleReport (goodReport 1)) lastWindow
      (fun t => decide (t.scan.round = none ∧ (t.scan.summary.map (·.stringV)) = some 66000)) = true := by
  decide +kernel

/-- The clause of `RoundCompletes` without a summary: module 2 has missed the round and has neither data nor is LOST. -/
theorem witness_RoundCompletes_none :
    gives (.moduleReport (goodReport 1))
      { lastWindow with
        loader := { up.loader with cfg := { Settings.defaults with moduleCount := 2 } }
        scan := { lastWindow.scan with round := some ⟨false, List.replicate 16 [], [.opened, .missed]⟩ } }
      (fun t => decide (t.scan.round = none ∧ t.scan.summary = none ∧ (t.scan.modules.getD 1 .reset).hasData = false)) = true := by
  decide +kernel

/-- A module with data: 20 cells of 3300 mV, total and check reading right, at check index 20. -/
def seen : ModuleRecord :=
  { ModuleRecord.reset with hasData := true, cells := List.replicate 20 3300, total := 66000, checkReading := 3300, k := 20 }

theorem witness_CheckIndexRotates_wraps :
    ∃ (m : ModuleRecord) (win : Window), win.wasAccepted = true ∧ m.check ≠ .lost ∧ m.k = 20 :=
  ⟨seen, .accepted false, rfl, by decide, rfl⟩

theorem witness_ConfirmedCell :
    ∃ (m : ModuleRecord), (m.check = .normal ∨ m.check = .search) ∧ m.substitutes = false ∧ m.sumDifference.natAbs ≤ 40
      ∧ m.checkDifference.natAbs ≤ 15 :=
  ⟨{ seen with check := .search, total := 66040, checkReading := 3315 }, by decide, rfl, by decide, by decide⟩

theorem witness_FaultyCellAndCheckPath_placed :
    ∃ (m : ModuleRecord), (m.check = .normal ∨ m.check = .search) ∧ m.substitutes = false ∧ m.cells.length = 20
      ∧ m.channels.length = 20 ∧ 1 ≤ m.k ∧ m.k ≤ 20
      ∧ m.checkReading ≤ 5000 ∧ m.sumDifference = m.checkDifference ∧ 40 < m.sumDifference.natAbs ∧ 15 < m.checkDifference.natAbs :=
  ⟨{ seen with total := 66041, checkReading := 3341 }, by decide, rfl, rfl, rfl, by decide, by decide, by decide, rfl, by decide, by decide⟩

/-- R11: two differences 40 mV apart, in the twentieth round of a search, with the error-hold record empty. -/
theorem witness_FaultyCellAndCheckPath_within :
    let m : ModuleRecord := { seen with check := .search, search := 19, disagree := 2, total := 66056, checkReading := 3316 }
    m.check = .search ∧ m.substitutes = false ∧ 40 < m.sumDifference.natAbs ∧ 15 < m.checkDifference.natAbs
      ∧ (m.sumDifference - m.checkDifference).natAbs = 40 ∧ m.errorHold = none := by
  decide

theorem witness_FaultyCellAndCheckPath_disagree :
    ∃ (m : ModuleRecord), m.check = .normal ∧ m.substitutes = false ∧ m.sumDifference.natAbs ≤ 40 ∧ 15 < m.checkDifference.natAbs
      ∧ m.disagree ≤ 2 :=
  ⟨{ seen with checkReading := 3316, disagree := 2 }, rfl, rfl, by decide, by decide, by decide⟩

theorem witness_FaultyCellAndCheckPath_degraded :
    ∃ (m : ModuleRecord), m.check = .degraded ∧ m.sumDifference.natAbs ≤ 40 :=
  ⟨{ seen with check := .degraded, checkReading := 3400 }, rfl, by decide⟩

theorem witness_FaultyCellAndCheckPath_blind :
    ∃ (m : ModuleRecord), m.check = .degraded ∧ 40 < m.sumDifference.natAbs :=
  ⟨{ seen with check := .degraded, total := 65959 }, rfl, by decide⟩

/-- R9, R10, R11: the sum alone disagrees, from NORMAL, in SEARCH and in its twentieth round; and two differences that do not describe one
cell. -/
theorem witness_FaultyCellAndCheckPath_search :
    ∃ m : ModuleRecord, m.check = .search ∧ m.substitutes = false ∧ 40 < m.sumDifference.natAbs ∧ m.checkDifference.natAbs ≤ 15
      ∧ m.search = 19 ∧ 40 < ({ m with check := .normal, checkReading := 3316 }.sumDifference
          - { m with check := .normal, checkReading := 3316 }.checkDifference).natAbs
      ∧ 15 < { m with checkReading := 3316 }.checkDifference.natAbs :=
  ⟨{ seen with check := .search, search := 19, total := 66057 }, by decide⟩

/-- R9: the check alone disagrees in SEARCH, for the first and for the third time in a row. -/
theorem witness_FaultyCellAndCheckPath_searchEnds :
    ∀ n ∈ [0, 2], let m : ModuleRecord := { seen with check := .search, search := 19, checkReading := 3316, disagree := n }
      m.check = .search ∧ m.substitutes = false ∧ m.sumDifference.natAbs ≤ 40 ∧ 15 < m.checkDifference.natAbs ∧ m.disagree ≤ 2 := by
  decide

/-- R13: cell 20 SUBSTITUTED with 3300 mV, its check reading at the tolerance and beyond it; and another cell's. -/
theorem witness_FaultyCellAndCheckPath_substituted :
    let m : ModuleRecord := { seen with channels := List.replicate 19 .good ++ [.substituted], subst := some 3300 }
    m.check ≠ .degraded ∧ m.substitutes = true ∧ m.channels.getD (m.k - 1) .good = .substituted
      ∧ (((3315 : Nat) : Int) - 3300).natAbs ≤ 15 ∧ 15 < (((3316 : Nat) : Int) - 3300).natAbs
      ∧ m.channels.getD ({ m with k := 1 }.k - 1) .good ≠ .substituted
      ∧ { m with k := 1, checkReading := 3315 }.checkDifference.natAbs ≤ 15
      ∧ 15 < { m with k := 1, checkReading := 3316 }.checkDifference.natAbs
      ∧ m.cells.length = 20 ∧ ∀ i < 20, m.channels.getD i .good = .substituted ↔ i = 19 := by
  decide

/-- R14, R15, R19: no valid temperature; one valid; and the check states BLIND and LOST. -/
theorem witness_FaultyCellAndCheckPath_states :
    (∀ x ∈ seen.temps, x.valid = false) ∧ seen.check ≠ .lost ∧ seen.errorHold = none
      ∧ (∃ x ∈ { seen with temps := [⟨0, false⟩, ⟨250, true⟩] }.temps, x.valid = true)
      ∧ { seen with check := .blind }.check = .blind ∧ { seen with check := .lost, readmit := true }.check = .lost := by
  decide

/-- A module with a valid temperature. -/
def warm : ModuleRecord := { seen with temps := [⟨250, true⟩, ⟨0, false⟩, ⟨0, false⟩, ⟨0, false⟩] }

/-- The clauses of `FaultyCellAndCheckPath` on the evaluation: each check state with its premises, check index 20 in `seen` and 3 here; and
the accepted window of a LOST module that is not re-admitted, a missed one, and a module that substitutes nothing. -/
theorem witness_FaultyCellAndCheckPath_evaluated :
    (∀ c ∈ [CheckState.normal, .search, .degraded, .blind], let m := { warm with check := c, k := 3 }
      m.check = c ∧ (∃ x ∈ m.temps, x.valid = true) ∧ m.k ≠ 20 ∧ warm.k = 20)
    ∧ (Window.accepted false).wasAccepted = true ∧ Window.missed.wasAccepted = false ∧ { warm with check := .lost }.check = .lost
    ∧ (¬ ∃ x ∈ seen.temps, x.valid = true) ∧ seen.check ≠ .lost ∧ seen.substitutes = false := by
  decide

/-- R4, R7: in a quiet round the check reading of cell 20 disagrees for the first time, and the index goes to 1; in any other round nothing
is checked. -/
theorem test_evaluate_checks :
    let m := { warm with checkReading := 3316 }
    ((m.evaluate (.accepted false) true 1 40 15).disagree, (m.evaluate (.accepted false) true 1 40 15).k) = (1, 1)
      ∧ ((m.evaluate (.accepted false) false 1 40 15).disagree, (m.evaluate (.accepted false) false 1 40 15).k) = (0, 20)
      ∧ (m.evaluate .missed true 1 40 15).disagree = 0 := by
  decide

/-! ### Analog watch, charge and balancing -/

theorem witness_ChargeAccounting :
    ∃ s : State, s.Running ∧ s.charge.condition = .counting ∧ s.charge.q = 1000000 :=
  ⟨{ up with charge := { up.charge with condition := .counting, q := 1000000 } }, rfl, rfl, rfl⟩

theorem witness_ChargeAccounting_noEstimate :
    ∃ s : State, s.Running ∧ s.charge.condition = .noEstimate :=
  ⟨up, rfl, rfl⟩

theorem witness_ChargeAccounting_full :
    ∃ s : State, s.charge.fullTimer ≠ none :=
  ⟨{ up with charge := { up.charge with fullTimer := some 30000 } }, by decide⟩

/-- The last window of a round, with an estimate that counts and an empty count. -/
def counting (empty : Nat) : State :=
  { lastWindow with charge := { up.charge with condition := .counting, q := 5000000, soc := 5, emptyCount := empty } }

/-- A report that completes the round and publishes. -/
def publishes (r : ModuleReport) (s : State) (p : State → Bool) : Bool :=
  gives (.moduleReport r) s fun t => t.scan.round.isNone && t.scan.summary.isSome && !t.scan.visibilityLost && p t

/-- The publication clauses of `ChargeAccounting`, R31: the full condition at 3500 mV and −9.9 A, and at 3499 mV not. -/
theorem witness_ChargeAccounting_published_full :
    publishes (report 3500 250) { counting 0 with analog := { up.analog with sample := -99 } }
        (fun t => decide (t.charge.fullTimer = some 0)) = true
      ∧ publishes (report 3499 250) { counting 0 with charge := { (counting 0).charge with fullTimer := some 0, armed := false } }
        (fun t => decide (t.charge.fullTimer = none ∧ t.charge.armed = true)) = true := by
  decide +kernel

/-- The publication clauses of `ChargeAccounting`, R32: the first and the third low summary, at 2900 mV; and 2901 mV. -/
theorem witness_ChargeAccounting_published_low :
    publishes (report 2900 250) (counting 0) (fun t => decide (t.charge.emptyCount = 1 ∧ t.charge.q = 5000000)) = true
      ∧ publishes (report 2900 250) (counting 2) (fun t => decide (t.charge.q = 0 ∧ t.charge.lastKind = .empty)) = true
      ∧ publishes (report 2901 250) (counting 2) (fun t => decide (t.charge.emptyCount = 0 ∧ t.charge.q = 5000000)) = true := by
  decide +kernel

/-- The publication clauses of `ChargeAccounting`, R28: an average below the first voltage, at the last, and within the table, whose first
step is from 2800 to 3180 mV: 38 mV of it are 1.0 %. -/
theorem witness_ChargeAccounting_published_estimate :
    publishes (report 2799 250) lastWindow (fun t => decide (t.charge.q = 0 ∧ t.charge.lastKind = .startEstimate)) = true
      ∧ publishes (report 3420 250) lastWindow (fun t => decide (t.charge.q = 1008000000)) = true
      ∧ publishes (report 2838 250) lastWindow (fun t => decide (t.charge.q = 10080000)) = true
      ∧ up.loader.cfg.ocv.length = 11 ∧ ∀ i < 10, up.loader.cfg.ocv.getD i 0 ≤ up.loader.cfg.ocv.getD (i + 1) 0 := by
  decide +kernel

theorem witness_AnalogConversions :
    ∃ s : State, s.Running :=
  ⟨up, rfl⟩

theorem witness_FastTripOpens :
    ∃ s : State, s.Configured ∧ s.conn.phase = .connected ∧ s.line.duplicate = false ∧ s.analog.trip .discharge = false
      ∧ tripPoint s.loader.cfg .discharge ≤ towards .discharge 4000 :=
  ⟨connected, ⟨rfl, rfl⟩, rfl, rfl, rfl, by decide⟩

theorem witness_FastTripOpens_between :
    ∃ s : State, s.Configured ∧ tripPoint s.loader.cfg .charge - 100 < towards .charge (-3901)
      ∧ towards .charge (-3901) < tripPoint s.loader.cfg .charge :=
  ⟨connected, ⟨rfl, rfl⟩, by decide, by decide⟩

theorem witness_FastTripOpens_phases (p : ConnPhase) :
    ∃ s : State, s.Configured ∧ s.conn.phase = p ∧ s.line.duplicate = false ∧ s.analog.trip .charge = false
      ∧ tripPoint s.loader.cfg .charge ≤ towards .charge (-4000) :=
  ⟨up.withConn fun c => { c with phase := p }, ⟨rfl, rfl⟩, rfl, rfl, rfl, by cases p <;> decide⟩

/-- The state left and the moment of the last exit. -/
def exitOf (t : State) : Option (ConnPhase × Nat) := t.conn.lastExit.map fun x => (x.left, x.uptime)

theorem witness_FastTripOpens_clears (p : ConnPhase) :
    ∃ s : State, s.Configured ∧ s.analog.trip .discharge = true
      ∧ towards .discharge 3900 ≤ tripPoint s.loader.cfg .discharge - 100
      ∧ s.conn.phase = p ∧ s.peers.dispatch.mode ≠ some .run :=
  ⟨{ (up.withConn fun c => { c with phase := p }) with analog := { up.analog with tripDischarge := true } }, ⟨rfl, rfl⟩, rfl,
    by cases p <;> decide, rfl, by cases p <;> decide⟩

/-- R181: the latch set in OPEN keeps nothing else from happening, and the comparator's clearing takes it away. -/
theorem witness_FastTripOpens_latch :
    gives (.fastTripComparator .charge (-4000)) up (fun t => decide (t.conn.phase = .opened ∧ t.conn.tripCharge = true)) = true
      ∧ gives (.fastTripComparator .charge (-3900))
        { (up.withConn fun c => { c with tripCharge := true }) with analog := { up.analog with tripCharge := true } }
        (fun t => decide (t.conn.tripCharge = false)) = true := by
  decide +kernel

/-- R181: a round's summary at a cell limit, and one short of it, in every state whose contactors are not all open; with the contactors open
a limit does nothing; and both limits at once. -/
theorem witness_FastTripOpens_cells :
    (∀ p ∈ [ConnPhase.precharging, .dcClosed, .connected, .rideThrough, .disconnecting],
        (∀ x ∈ [(3650, ExitCause.cellHigh), (2700, .cellLow)], publishes (report x.1 250) (inPhase p lastWindow)
            (fun t => decide (t.conn.phase = .tripped ∧ t.hazard.level = .clear ∧ t.conn.lastExit = some ⟨x.2, p, 7⟩)) = true)
          ∧ ∀ mv ∈ [3649, 2701], publishes (report mv 250) (inPhase p lastWindow) (fun t => decide (t.conn.phase = p)) = true)
      ∧ (∀ p ∈ [ConnPhase.opened, .tripped, .locked], publishes (report 3650 250) (inPhase p lastWindow)
          (fun t => decide (t.conn.phase = p ∧ t.conn.lastExit = none)) = true)
      ∧ publishes { report 2700 250 with cells := 2700 :: List.replicate 19 3650 } (inPhase .connected lastWindow)
          (fun t => decide (t.conn.lastExit = some ⟨.cellHigh, .connected, 7⟩)) = true := by
  decide +kernel

theorem witness_GasComparators :
    ∃ s : State, s.Running ∧ (s.analog.comparators .a).fault = false :=
  ⟨up, rfl, rfl⟩

theorem witness_GasComparators_fault :
    ∃ s : State, s.Running ∧ (s.analog.comparators .a).fault = true :=
  ⟨{ up with analog := { up.analog with loopA := ⟨false, false, true⟩ } }, rfl, rfl⟩

theorem witness_GasComparators_change :
    ∃ s : State, s.Running ∧ (s.analog.comparators .b).fault = false
      ∧ gives (.gasLevelComparator .b .l2 200) s (fun t => (t.analog.comparators .b).level .l2 != (s.analog.comparators .b).level .l2) = true :=
  ⟨up, rfl, rfl, by decide +kernel⟩

/-- The supervision clauses of `GasComparators`, at each side of 3.60, 21.00, 3.80 and 20.80 mA: a cleared FAULT at 20.80 mA finds 1000 ppm. -/
theorem witness_GasComparators_supervision :
    let faulty : State := (up.withHazard fun x => { x with set := [.gasAFault] })
    let faulty : State := { faulty with analog := { up.analog with loopA := ⟨false, false, true⟩ } }
    gives (.loopFaultComparator .a 360) up (fun t => decide (t.hazard.set = [])) = true
      ∧ gives (.loopFaultComparator .a 2100) up (fun t => decide (t.hazard.set = [])) = true
      ∧ gives (.loopFaultComparator .a 2101) up (fun t => decide (t.hazard.set = [.gasAFault])) = true
      ∧ gives (.loopFaultComparator .a 379) faulty (fun t => decide (t.hazard.set = [.gasAFault])) = true
      ∧ gives (.loopFaultComparator .a 2081) faulty (fun t => decide (t.hazard.set = [.gasAFault])) = true
      ∧ gives (.loopFaultComparator .a 380) faulty (fun t => decide (t.hazard.set = [])) = true
      ∧ gives (.loopFaultComparator .a 2080) faulty
        (fun t => decide (t.hazard.set = [.gasAL1, .gasAL2] ∧ t.hazard.level = .preAlarm)) = true := by
  decide +kernel

/-- R71, R72: a set for each level, and one that holds a fault beside smoke. -/
theorem witness_GasComparators_levels :
    risingLevel [] = .clear ∧ risingLevel [.gasAL1] = .watch ∧ risingLevel [.gasAL1, .gasBL1] = .preAlarm
      ∧ risingLevel [.smokeA, .smokeAFault] = .preAlarm ∧ risingLevel [.smokeA, .smokeB] = .alarm
      ∧ risingLevel [.gasAL2, .heatRise] = .alarm ∧ risingLevel [.manual] = .alarm := by
  decide

theorem witness_BalanceEvaluates :
    ∃ s : State, s.balance.evalTimer ≠ none ∧ s.hazard.level.isPre = true :=
  ⟨up.withHazard fun x => { x with level := .preAlarm }, by decide, rfl⟩

theorem witness_BalanceEvaluates_current :
    ∃ s : State, s.balance.evalTimer ≠ none ∧ s.hazard.level.isPre = false ∧ 500 < s.analog.sample.natAbs :=
  ⟨{ up with analog := { up.analog with sample := -501 } }, by decide, rfl, by decide⟩

/-- A summary with the lowest cell at 3380 mV and the highest at `mv`. -/
def summaryOf (mv : Nat) : Summary :=
  ⟨1, some ⟨3380, 1, 1⟩, some ⟨mv, 1, 2⟩, none, none, List.replicate 16 none, 66000, 20, 0, false⟩

theorem witness_BalanceEvaluates_voltage :
    ∃ s : State, s.balance.evalTimer ≠ none ∧ s.hazard.level.isPre = false ∧ s.analog.sample.natAbs ≤ 500 ∧ s.analog.overRange = false
      ∧ ∀ x, s.scan.summary.bind (·.vMax) = some x → x.mv < 3400 :=
  ⟨up.withScan fun x => { x with summary := some (summaryOf 3399) }, by decide, by decide, by decide, rfl,
    fun x h => by cases h; decide⟩

theorem witness_BalanceEvaluates_balancing :
    ∃ (s : State) (x lo : CellAt), s.balance.evalTimer ≠ none ∧ s.hazard.level.isPre = false ∧ s.analog.sample.natAbs ≤ 500
      ∧ s.analog.overRange = false ∧ s.scan.summary.bind (·.vMax) = some x ∧ 3400 ≤ x.mv
      ∧ s.scan.summary.bind (·.vMin) = some lo ∧ 0 < s.loader.cfg.moduleCount ∧ 0 < s.scan.modules.length :=
  ⟨up.withScan fun x => { x with summary := some (summaryOf 3400) }, _, _, by decide, by decide, by decide, rfl, rfl, by decide, rfl,
    by decide, by decide⟩

/-- The module clauses of `BalanceEvaluates`: no data; not NORMAL; stale; 45.0 °C; no maximum; and 44.9 °C. -/
theorem witness_BalanceEvaluates_modules :
    gives .balanceEvaluation
      (up.withScan fun x => { x with
        summary := some { summaryOf 3400 with maxima := [none, none, none, some 450, none, some 449] ++ List.replicate 10 none }
        modules := [.reset, { seen with check := .degraded }, { seen with stale := true }, seen, seen, seen]
          ++ List.replicate 10 .reset })
      (fun t => decide (t.balance.reasons.take 6 = [.noData, .notNormal, .stale, .hot, .hot, .none])) = true := by
  decide +kernel

/-- R39: of nine cells above the target the eight highest are taken, and of the equal ones the lowest indices. -/
theorem witness_BleedSetsRanked :
    let set := bleedSet { seen with cells := [3400, 3401, 3402, 3403, 3404, 3405, 3406, 3407, 3400] ++ List.replicate 11 3300 } 3399
    set.length = 8 ∧ 1 ∈ set ∧ 9 ∉ set := by
  decide +kernel

/-! ### Thermal control -/

theorem witness_Compressor_stays :
    ∃ s : State, s.Running ∧ s.thermal.minOff ≠ none
      ∧ (s.thermal.forced ≠ .coolForced ∨ s.thermal.compressorFailed = true ∨ s.thermal.compressor = true) :=
  ⟨up, rfl, by decide, by decide⟩

theorem witness_Compressor_starts :
    ∃ s : State, s.Running ∧ s.thermal.minOff ≠ none ∧ s.thermal.forced = .coolForced ∧ s.thermal.compressorFailed = false
      ∧ s.thermal.compressor = false :=
  ⟨up.withThermal fun x => { x with forced := .coolForced, minOff := some 300000 }, rfl, by decide, rfl, rfl, rfl⟩

theorem witness_Compressor_feedback :
    ∃ s : State, s.Running ∧ s.thermal.need ≠ .starting ∧ s.thermal.compressor = true ∧ s.thermal.monitor ≠ none :=
  ⟨up.withThermal fun x => { x with compressor := true, monitor := some 9999 }, rfl, by decide, rfl, by decide⟩

/-- R55, R62: feedback seen in STARTING, feedback lost while the monitor runs, and feedback seen once it has stopped. -/
theorem witness_Compressor_starting :
    (∃ (s : State) (need : Need), s.Running ∧ s.thermal.compressor = true ∧ s.thermal.monitor ≠ none ∧ s.thermal.need = .starting
        ∧ s.permit.served = some need ∧ need.purpose.isThermal = true ∧ s.permit.queue = [])
      ∧ (∃ s : State, s.Running ∧ s.thermal.compressor = true ∧ s.thermal.monitor ≠ none ∧ s.thermal.confirmed = false)
      ∧ ∃ s : State, s.Running ∧ s.thermal.compressor = true ∧ s.thermal.monitor = none ∧ s.thermal.confirmed = true :=
  ⟨⟨{ (up.withThermal fun x => { x with compressor := true, monitor := some 9999, need := .starting }) with
        permit := { up.permit with phase := .holding, served := some ⟨.coolStage, 16⟩ } }, ⟨.coolStage, 16⟩, rfl, rfl, by decide, rfl, rfl, rfl,
      rfl⟩,
    ⟨up.withThermal fun x => { x with compressor := true, monitor := some 9999 }, rfl, rfl, by decide, rfl⟩,
    up.withThermal fun x => { x with compressor := true, confirmed := true }, rfl, rfl, rfl, rfl⟩

theorem witness_Compressor_lost :
    ∃ s : State, s.Running ∧ s.thermal.compressor = true ∧ s.thermal.confirmed = true :=
  ⟨up.withThermal fun x => { x with compressor := true, confirmed := true, feedback := true }, rfl, rfl, rfl⟩

theorem witness_Compressor_off :
    ∃ s : State, s.Running ∧ s.thermal.compressor = false :=
  ⟨up, rfl, rfl⟩

theorem witness_StartMonitorExpires :
    ∃ s : State, s.Running ∧ s.thermal.monitor ≠ none ∧ s.thermal.compressor = true ∧ s.thermal.need ≠ .starting :=
  ⟨up.withThermal fun x => { x with compressor := true, monitor := some 10000 }, rfl, by decide, rfl, by decide⟩

theorem witness_StartMonitorExpires_starting :
    ∃ (s : State) (need : Need), s.Running ∧ s.thermal.monitor ≠ none ∧ s.thermal.compressor = true ∧ s.thermal.need = .starting
      ∧ s.permit.served = some need
      ∧ need.purpose.isThermal = true ∧ s.permit.queue = [] :=
  ⟨{ (up.withThermal fun x => { x with compressor := true, monitor := some 10000, need := .starting }) with permit := { up.permit with phase := .holding, served := some ⟨.coolStage, 12⟩ } }, ⟨.coolStage, 12⟩, rfl, by decide, rfl, rfl, rfl, rfl, rfl⟩

/-- The forced mode of each level and set, and each mode left (R49 to R51). -/
theorem witness_StartMonitorExpires_forced (forced : ForcedMode) :
    (∃ w : Work, w.hazard.level.isAlarm = true ∧ w.thermal.forced = forced ∧ w.thermal.compressor = true)
      ∧ (∃ w : Work, w.hazard.level = .preAlarm ∧ GasCause w.hazard.set ∧ w.thermal.forced = forced ∧ w.thermal.compressor = false)
      ∧ (∃ w : Work, w.hazard.level = .preAlarm ∧ ¬ GasCause w.hazard.set ∧ w.thermal.forced = forced ∧ w.thermal.compressor = false
          ∧ w.thermal.compressorFailed = false ∧ w.thermal.minOff = none ∧ w.thermal.feedback = false)
      ∧ ∃ w : Work, w.hazard.level = .watch ∧ w.thermal.forced = forced ∧ w.thermal.compressor = true :=
  ⟨⟨Work.start { alarmed with thermal := { up.thermal with forced := forced, compressor := true } }, rfl, rfl, rfl⟩,
    ⟨Work.start { (up.withHazard fun x => { x with level := .preAlarm, set := [.gasBL2] }) with
      thermal := { up.thermal with forced := forced } }, rfl, .inr (.inr (.inr (List.mem_singleton.mpr rfl))), rfl, rfl⟩,
    ⟨Work.start { (up.withHazard fun x => { x with level := .preAlarm, set := [.heatHigh] }) with
      thermal := { up.thermal with forced := forced, minOff := none } }, rfl,
      by exact (by unfold GasCause; decide : ¬ GasCause [Indication.heatHigh]), rfl, rfl, rfl, rfl, rfl⟩,
    ⟨Work.start { (up.withHazard fun x => { x with level := .watch }) with
      thermal := { up.thermal with forced := forced, compressor := true } }, rfl, rfl, rfl⟩⟩

/-- COOL_FORCED entered with a failed compressor, and with the minimum-off timer running; NONE left with a STARTING need held. -/
theorem witness_StartMonitorExpires_others :
    (∃ w : Work, w.hazard.level = .preAlarm ∧ ¬ GasCause w.hazard.set ∧ w.thermal.forced = .none ∧ w.thermal.compressorFailed = true)
      ∧ (∃ w : Work, w.hazard.level = .preAlarm ∧ ¬ GasCause w.hazard.set ∧ w.thermal.forced = .none ∧ w.thermal.minOff ≠ none)
      ∧ ∃ (w : Work) (need : Need), w.hazard.level.isAlarm = true ∧ w.thermal.forced = .none ∧ w.thermal.need = .starting
          ∧ w.permit.served = some need ∧ need.purpose.isThermal = true :=
  ⟨⟨Work.start { (up.withHazard fun x => { x with level := .preAlarm }) with thermal := { up.thermal with compressorFailed := true } },
      rfl, by unfold GasCause; decide, rfl, rfl⟩,
    ⟨Work.start (up.withHazard fun x => { x with level := .preAlarm }), rfl, by unfold GasCause; decide, rfl, by decide⟩,
    ⟨Work.start { alarmed with
      thermal := { up.thermal with need := .starting }, permit := { up.permit with phase := .holding, served := some ⟨.coolStage, 12⟩ } },
      _, rfl, rfl, rfl, rfl, rfl⟩⟩

/-- R50, R51: PURGE stops the compressor; back from COOL_FORCED with the compressor on, the stage is COOL_2. -/
theorem witness_StartMonitorExpires_modes :
    let purged := (thermalHazardReport (Work.start { (up.withHazard fun x => { x with level := .preAlarm, set := [.gasAL2] }) with
      thermal := { up.thermal with stage := .cool1, compressor := true } })).thermal
    let back := (thermalHazardReport (Work.start { up with thermal := { up.thermal with forced := .coolForced, compressor := true } })).thermal
    purged.forced = .purge ∧ purged.compressor = false ∧ purged.minOff = some 0 ∧ purged.damper = true ∧ purged.fan1.dutySet = 63
      ∧ back.forced = .none ∧ back.stage = .cool2 ∧ back.compressor = true := by
  decide +kernel

theorem witness_TachMonitors :
    ∃ s : State, s.Running ∧ s.thermal.pump.lowCount = 4 ∧ s.thermal.pump.low = false ∧ s.thermal.pump.pulses = 9 :=
  ⟨up.withThermal fun x => { x with pump := ⟨40, 40, 9, false, 4, 0, false⟩ }, rfl, rfl, rfl, rfl⟩

theorem witness_TachMonitors_ended :
    ∃ s : State, s.Running ∧ s.thermal.pump.lowCount < 5 ∧ 10 ≤ s.thermal.pump.pulses ∧ s.thermal.fan1.lowCount = 5 :=
  ⟨up.withThermal fun x => { x with pump := ⟨40, 40, 10, false, 4, 0, false⟩, fan1 := ⟨40, 40, 10, false, 5, 0, true⟩ }, rfl, by decide, by decide, rfl⟩

theorem witness_PwmPeriod :
    ∃ s : State, s.Running ∧ s.thermal.pump.dutySet = 16 :=
  ⟨up.withThermal fun x => { x with pump := { x.pump with dutySet := 16 } }, rfl, rfl⟩

/-- A part at COOL_1 with its compressor on, whose summary asks for COOL_2. -/
def cooling : State :=
  { (up.withThermal fun x => { x with
      stage := .cool1, aux := 18, compressor := true, confirmed := true, feedback := true, minOn := some 0, minOff := none
      pump := { x.pump with dutySet := 48 }, fan1 := { x.fan1 with dutySet := 40 }, fan2 := { x.fan2 with dutySet := 40 } }) with
    scan := { up.scan with summary := some { summaryOf 3399 with tMin := some ⟨250, 1, 1⟩, tMax := some ⟨360, 1, 2⟩ } } }

theorem witness_PwmPeriod_follows : ∃ s t : State, s.ThermalFollows ∧ step s = .next t :=
  ⟨{ cooling with pending := [.pwmPeriodStart] }, _,
    ⟨⟨fun _ => rfl, nofun, nofun, nofun⟩, ⟨rfl, by decide, by decide, by decide, rfl, fun _ => ⟨rfl, by decide⟩⟩,
      ⟨by decide, by decide, by decide, fun h => absurd rfl h⟩⟩, rfl⟩

/-- A part at CIRCULATE whose cells have reached 32.0 °C: the ladder asks for COOL_1, which has failed its check once, and no timer is in
its way. -/
def wanting : State :=
  { (up.withThermal fun x => { x with
      stage := .circulate, minOff := none, need := .retry, wanted := some .cool1, auxWait := true, retry := some 10000, aux := 2
      pump := { x.pump with dutySet := 32 } }) with
    scan := { up.scan with summary := some { summaryOf 3399 with tMin := some ⟨250, 1, 1⟩, tMax := some ⟨320, 1, 2⟩ } }
    permit := { up.permit with phase := .backoff } }

def wanting.withThermal (f : ThermalState → ThermalState) : State := { wanting with thermal := f wanting.thermal }

theorem wanting_row (need : NeedState) (want : Option Stage) (minOff : Timer) :
    (wanting.withThermal fun x => { x with need := need, wanted := want, minOff := minOff }).RowInForce :=
  have r : wanting.RowInForce := ⟨rfl, by decide, by decide, by decide, rfl, nofun⟩
  ⟨r.duties, r.heater, r.damper, r.exhaust, r.aux, r.compressor⟩

/-- R45: the ladder at the boundary values of its rows. -/
theorem witness_AuxRetry_ladder :
    ladder .off 50 279 ⟨none, false⟩ = .heat ∧ ladder .off 51 280 ⟨none, false⟩ = .circulate
      ∧ ladder .off 51 279 ⟨some 30, false⟩ = .circulate ∧ ladder .off 51 279 ⟨some 31, false⟩ = .off
      ∧ ladder .circulate 51 320 ⟨none, false⟩ = .cool1 ∧ ladder .circulate 51 249 ⟨some 51, false⟩ = .off
      ∧ ladder .circulate 51 249 ⟨some 50, false⟩ = .circulate ∧ ladder .circulate 50 249 ⟨none, false⟩ = .heat
      ∧ ladder .circulate 0 250 ⟨none, false⟩ = .circulate
      ∧ ladder .cool1 0 360 ⟨none, false⟩ = .cool2 ∧ ladder .cool1 0 289 ⟨none, false⟩ = .circulate
      ∧ ladder .cool2 0 329 ⟨none, false⟩ = .cool1 ∧ ladder .cool2 0 330 ⟨none, false⟩ = .cool2
      ∧ ladder .heat 100 100 ⟨none, false⟩ = .off ∧ ladder .heat 99 279 ⟨none, false⟩ = .heat := by
  decide

theorem witness_AuxRetry_evaluation :
    (∃ (s : State) (x : Summary) (lo hi : TempAt), s.scan.summary = some x ∧ x.tMin = some lo ∧ x.tMax = some hi ∧ hi.value = 320)
      ∧ ∃ (s : State) (x : Summary), s.scan.summary = some x ∧ x.tMin = none :=
  ⟨⟨wanting, _, _, _, rfl, rfl, rfl, rfl⟩, up.withScan fun x => { x with summary := some (summaryOf 3399) }, _, rfl, rfl⟩

theorem witness_AuxRetry :
    ∃ s : State, s.Running ∧ s.thermal.retry ≠ none ∧ s.thermal.need = .retry ∧ s.thermal.forced = .none ∧ s.RowInForce
      ∧ evaluateLadder (Work.start s) = none :=
  ⟨{ wanting with scan := up.scan }, rfl, by decide, rfl, rfl, ⟨rfl, by decide, by decide, by decide, rfl, nofun⟩, by decide +kernel⟩

/-- R47 holds the step back. -/
theorem witness_AuxRetry_held :
    ∃ s : State, s.Running ∧ s.thermal.retry ≠ none ∧ s.thermal.need = .retry ∧ s.thermal.forced = .none ∧ s.RowInForce
      ∧ evaluateLadder (Work.start s) = some .cool1 ∧ s.hazard.level.isAlarm = false ∧ s.thermal.wanted = some .cool1
      ∧ s.thermal.stage = .circulate ∧ s.thermal.compressorFailed = false ∧ s.thermal.minOff ≠ none :=
  ⟨wanting.withThermal fun x => { x with need := .retry, wanted := some .cool1, minOff := some 299999 }, rfl, by decide, rfl, rfl,
    wanting_row _ _ _, by decide +kernel, rfl, rfl, rfl, rfl, by decide⟩

/-- A retry for `wanted` at CIRCULATE, with the hottest cell at `hi`, the permit in state `p` with `queue`, and these peers. -/
def retryingFor (wanted : Stage) (hi : Int) (p : PermitPhase) (queue : List Need) (entries : List PeerEntry) : State :=
  { (wanting.withThermal fun x => { x with need := .retry, wanted := some wanted, minOff := none }) with
    scan := { up.scan with summary := some { summaryOf 3399 with tMin := some ⟨210, 1, 1⟩, tMax := some ⟨hi, 1, 2⟩ } }
    permit := { up.permit with phase := p, queue := queue }, peers := { up.peers with service := .inService, entries := entries } }

theorem retryingFor_row (wanted : Stage) (hi : Int) (p : PermitPhase) (queue : List Need) (entries : List PeerEntry) :
    (retryingFor wanted hi p queue entries).RowInForce :=
  let r := wanting_row .retry (some wanted) none
  ⟨r.duties, r.heater, r.damper, r.exhaust, r.aux, r.compressor⟩

/-- The retry of `AuxRetry` at which the evaluation gives another stage than the wanted one, in every state of the permit: the stage held at
25.0 °C, a free step at 24.9 °C, and a step that needs the permit at 32.0 °C, which goes into the queue behind another need or behind none,
and which a need of its purpose in the queue stands for. -/
theorem witness_AuxRetry_another :
    ∀ p ∈ [PermitPhase.idle, .asking, .holding, .backoff],
      gives .retryTimerExpiry (retryingFor .heat 250 p [] []) (fun t => decide (t.thermal.need = .none ∧ t.thermal.stage = .circulate)) = true
        ∧ gives .retryTimerExpiry (retryingFor .cool1 249 p [] []) (fun t => decide (t.thermal.need = .none ∧ t.thermal.stage = .off)) = true
        ∧ gives .retryTimerExpiry { retryingFor .heat 320 p [⟨.precharge, 0⟩] [] with peers := up.peers }
            (fun t => decide (t.thermal.wanted = some .cool1 ∧ t.permit.queue = [⟨.precharge, 0⟩, ⟨.coolStage, 16⟩])) = true
        ∧ gives .retryTimerExpiry (retryingFor .heat 320 p [⟨.coolStage, 12⟩] [])
            (fun t => decide (t.thermal.need = .waiting ∧ t.permit.queue = [⟨.coolStage, 12⟩])) = true := by
  decide +kernel

/-- The same step with an IDLE permit that may ask: an ask is opened where a peer is awaited, and else the need is held and checked. -/
theorem witness_AuxRetry_another_asks :
    gives .retryTimerExpiry (retryingFor .heat 320 .idle [] [{ PeerEntry.reset with presence := .silent, kind := .container }])
        (fun t => decide (t.thermal.need = .waiting ∧ t.permit.phase = .asking ∧ t.permit.queue = [⟨.coolStage, 16⟩])) = true
      ∧ gives .retryTimerExpiry (retryingFor .heat 320 .idle [] [])
        (fun t => decide (t.thermal.stage = .cool1 ∧ t.thermal.lastAux = some ⟨0, 18, up.loader.cfg.auxLimit, true, 7⟩)) = true := by
  decide +kernel

/-- The wanted stage again, with the permit in state `p` and these peers. -/
def retrying (p : PermitPhase) (entries : List PeerEntry) : State :=
  { (wanting.withThermal fun x => { x with need := .retry, wanted := some .cool1, minOff := none }) with
    permit := { up.permit with phase := p }, peers := { up.peers with service := .inService, entries := entries } }

theorem retrying_row (p : PermitPhase) (entries : List PeerEntry) : (retrying p entries).RowInForce :=
  let r := wanting_row .retry (some .cool1) none
  ⟨r.duties, r.heater, r.damper, r.exhaust, r.aux, r.compressor⟩

/-- The retry in BACKOFF; in IDLE with a peer awaited; and in IDLE with none. -/
theorem witness_AuxRetry_again :
    (∀ x ∈ [(PermitPhase.backoff, []), (.idle, [{ PeerEntry.reset with presence := .silent, kind := .container }]), (.idle, [])],
      let s := retrying x.1 x.2
      s.loader.phase = .running ∧ s.thermal.retry ≠ none ∧ s.thermal.need = .retry ∧ s.thermal.forced = .none
        ∧ evaluateLadder (Work.start s) = some .cool1 ∧ s.hazard.level.isAlarm = false ∧ s.thermal.wanted = some .cool1
        ∧ s.thermal.minOff = none ∧ s.permit.queue = [] ∧ s.permit.deferred = [] ∧ s.permit.owed = .none ∧ 1 ≤ s.permit.free
        ∧ s.peers.service = .inService ∧ s.line.degraded = false ∧ s.line.duplicate = false ∧ s.loader.listenOnly = false
        ∧ (awaitedOf s.peers.entries ≠ [] ↔ x.2 ≠ [])) := by
  decide +kernel

/-- The publication clauses of `AuxRetry`, in every state of the permit: a wish that stands, one that has changed, a step that needs the
permit, a step held back, and a start awaited. -/
theorem witness_AuxRetry_published :
    ∀ p ∈ [PermitPhase.idle, .asking, .holding, .backoff],
      let s : State := { lastWindow with thermal := wanting.thermal, permit := { wanting.permit with phase := p } }
      publishes (report 3300 320) s
          (fun t => decide (t.hazard.set = s.hazard.set ∧ t.conn.phase = s.conn.phase ∧ t.thermal = s.thermal)) = true
        ∧ publishes (report 3300 250) s
          (fun t => decide (t.conn.phase = s.conn.phase ∧ t.thermal.need = .none ∧ t.thermal.stage = .circulate)) = true
        ∧ publishes (report 3300 320)
          { s with thermal := { s.thermal with need := .none, wanted := none, auxWait := false, retry := none } }
          (fun t => decide (t.conn.phase = s.conn.phase ∧ t.thermal.need = .waiting ∧ t.thermal.wanted = some .cool1)) = true
        ∧ publishes (report 3300 320) { s with thermal := { up.thermal with stage := .circulate } }
          (fun t => decide (t.thermal.need = .none ∧ t.thermal.stage = .circulate)) = true
        ∧ publishes (report 3300 250) { s with thermal := { wanting.thermal with need := .starting } }
          (fun t => decide (t.thermal.need = .starting)) = true
        ∧ s.hazard.level.isAlarm = false ∧ s.loader.phase = .running := by
  decide +kernel

/-- At a publication a changed wish cancels the need that waits for the old one, HEAT_STAGE here, and an IDLE permit that may ask opens one
for the new need, or, where no peer is awaited, holds it and makes its check. -/
theorem witness_AuxRetry_published_asks :
    let s : State := { lastWindow with
      thermal := { wanting.thermal with need := .waiting, wanted := some .heat, retry := none }
      permit := { up.permit with queue := [⟨.heatStage, 10⟩] }, peers := { up.peers with service := .inService } }
    let awaiting : List PeerEntry := [{ PeerEntry.reset with presence := .present, kind := .container }]
    publishes (report 3300 320) { s with peers := { s.peers with entries := awaiting } }
        (fun t => decide (t.conn.phase = s.conn.phase ∧ t.permit.phase = .asking ∧ t.permit.queue = [⟨.coolStage, 16⟩]
          ∧ t.thermal.wanted = some .cool1)) = true
      ∧ publishes (report 3300 320) s
        (fun t => decide (t.conn.phase = s.conn.phase ∧ t.thermal.stage = .cool1 ∧ t.thermal.lastAux.isSome)) = true := by
  decide +kernel

theorem witness_AuxRetry_follows : wanting.NeedFollows ∧ wanting.RowInForce :=
  ⟨⟨by decide, by decide, by decide, fun h => absurd rfl h⟩, ⟨rfl, by decide, by decide, by decide, rfl, nofun⟩⟩

/-! ### Hazard -/

theorem witness_SmokeLoop :
    ∃ s : State, s.Running ∧ (s.hazard.loop .a).timer ≠ none ∧ (s.hazard.loop .a).band = .alarmBand :=
  ⟨up.withHazard fun x => { x with smokeA := ⟨.alarmBand, .normal, some 1000⟩ }, rfl, by decide, rfl⟩

theorem witness_Contacts_running :
    ∃ s : State, s.Running :=
  ⟨up, rfl⟩

theorem witness_Contacts_door :
    ∃ s : State, s.hazard.door.timer ≠ none :=
  ⟨up.withHazard fun x => { x with door := ⟨true, false, some 100⟩ }, by decide⟩

theorem witness_Contacts_hold :
    ∃ s : State, s.hazard.hold.timer ≠ none :=
  ⟨up.withHazard fun x => { x with hold := ⟨true, false, some 100⟩ }, by decide⟩

theorem witness_Contacts_callPoint :
    ∃ s : State, s.hazard.callPoint.timer ≠ none :=
  ⟨up.withHazard fun x => { x with callPoint := ⟨true, false, some 100⟩ }, by decide⟩

theorem witness_Contacts_discharged :
    ∃ s : State, s.hazard.dischargedInput.timer ≠ none ∧ s.hazard.dischargedInput.terminal = true ∧ s.hazard.evaluated = true
      ∧ s.hazard.level.code ≤ 4 :=
  ⟨up.withHazard fun x => { x with dischargedInput := ⟨true, false, some 100⟩, level := .releasing, release := true }, by decide, rfl, rfl, by decide⟩

theorem witness_Contacts_notDischarged :
    ∃ s : State, s.hazard.dischargedInput.timer ≠ none ∧ (s.hazard.dischargedInput.terminal = false ∨ 5 ≤ s.hazard.level.code) :=
  ⟨up.withHazard fun x => { x with dischargedInput := ⟨true, false, some 100⟩, level := .discharged }, by decide, by decide⟩

theorem witness_Contacts_dischargedRests :
    ∀ x ∈ [(false, true, HazardLevel.alarm), (true, false, .watch), (true, true, .discharged)],
      let s : State := up.withHazard fun h => { h with
        dischargedInput := ⟨x.1, !x.1, some 100⟩, evaluated := x.2.1, level := x.2.2 }
      s.hazard.dischargedInput.timer ≠ none
        ∧ (s.hazard.dischargedInput.terminal = false ∨ s.hazard.evaluated = false ∨ 5 ≤ s.hazard.level.code) := by
  decide

/-- R81: DISCHARGED taken active before the first evaluation waits for it. -/
theorem test_discharged_waits :
    gives (.contactInputSettled .discharged)
      (up.withHazard fun h => { h with dischargedInput := ⟨true, false, some 100⟩, evaluated := false, firstEval := some 5 })
      (fun t => decide (t.hazard.level = .clear ∧ t.hazard.dischargedInput.taken = true)) = true := by
  decide +kernel

theorem witness_Contacts_key :
    ∀ s ∈ [{ up with key := ⟨false, true, some 100⟩ }, { up with key := ⟨true, true, some 100⟩ },
        { up with loader := .reset .loading 5, key := ⟨true, false, some 100⟩ }],
      s.key.timer ≠ none ∧ (s.key.terminal = false ∨ s.key.taken = true ∨ ¬ s.Running) := by
  unfold State.Running; decide

/-- R195: the key taken as inactive clears nothing, and the turn after it does. -/
theorem test_key_rearms :
    gives (.contactInputSettled .keySwitch) { alarmed with key := ⟨false, true, some 100⟩ }
        (fun t => decide (t.hazard.level = .alarm ∧ t.key = ⟨false, false, none⟩)) = true
      ∧ gives (.contactInputSettled .keySwitch) { alarmed with key := ⟨true, false, some 100⟩ }
        (fun t => decide (t.hazard.level = .clear ∧ t.key = ⟨true, true, none⟩)) = true := by
  decide +kernel

theorem witness_HeatHighFollowsSummaries :
    ∃ (w : Work) (t : TempAt), mayPublish w.count w.scan = true ∧ (buildSummary w.count w.scan).tMax = some t ∧ t.value = 650 :=
  ⟨Work.start (up.withScan fun x => { x with
    modules := List.replicate 16 { seen with temps := List.replicate 4 ⟨650, true⟩ } }), _, by decide +kernel, rfl, by decide +kernel⟩

theorem witness_HeatHighFollowsSummaries_none :
    ∃ w : Work, mayPublish w.count w.scan = true ∧ (buildSummary w.count w.scan).tMax = none :=
  ⟨Work.start (up.withScan fun x => { x with modules := List.replicate 16 seen }), by decide +kernel, by decide +kernel⟩

/-- A command that puts HEAT_HIGH into the set: the report that completes a round with 65.0 °C. -/
theorem witness_HeatHighFollowsSummaries_enters :
    .heatHigh ∉ lastWindow.hazard.set
      ∧ gives (.moduleReport { goodReport 1 with temps := [650, 640, 640, 640] }) lastWindow
          (fun t => decide (.heatHigh ∈ t.hazard.set)) = true := by
  decide +kernel

/-- Rounds that complete: T_max at 65.0, 60.0 and 59.9 °C, with HEAT_HIGH absent and present before, and no valid temperature. -/
theorem witness_HeatHighFollowsSummaries_rounds :
    let s : State := { lastWindow with hazard := { up.hazard with set := [.heatHigh], level := .preAlarm, escalation := some 0 } }
    let r (x : Int) : ModuleReport := { goodReport 1 with temps := [x, 1251, 1251, 1251] }
    lastWindow.scan.round ≠ none ∧ s.scan.round ≠ none
      ∧ publishes (r 650) lastWindow (fun t => decide (t.hazard.set = [.heatHigh] ∧ t.hazard.level = .preAlarm)) = true
      ∧ publishes (r 649) lastWindow (fun t => decide (t.hazard.set = [] ∧ t.hazard.level = .clear)) = true
      ∧ publishes (r 600) s (fun t => decide (t.hazard.set = [.heatHigh])) = true
      ∧ publishes (r 599) s (fun t => decide (t.hazard.set = [] ∧ t.hazard.level = .preAlarm)) = true
      ∧ gives (.moduleReport (r 1251)) s (fun t => decide (t.scan.round = none ∧ t.scan.summary.isSome
          ∧ t.scan.summary.bind (·.tMax) = none ∧ t.hazard.set = [.heatHigh])) = true := by
  decide +kernel

theorem witness_HeatRiseSample :
    ∃ s : State, s.hazard.sampleTimer ≠ none :=
  ⟨up, by decide⟩

theorem witness_FirstEvaluation :
    ∃ s : State, s.hazard.firstEval ≠ none ∧ s.hazard.level.code ≤ 2 ∧ s.hazard.dischargedInput.taken = false :=
  ⟨up.withHazard fun x => { x with evaluated := false, firstEval := some 2000 }, by decide, by decide, rfl⟩

theorem witness_FirstEvaluation_discharged :
    ∃ s : State, s.hazard.firstEval ≠ none ∧ s.hazard.level.code ≤ 2 ∧ s.hazard.dischargedInput.taken = true :=
  ⟨up.withHazard fun x => { x with evaluated := false, firstEval := some 2000, dischargedInput := ⟨true, true, none⟩ }, by decide, by decide, rfl⟩

theorem witness_FirstEvaluation_rearms :
    ∃ s : State, s.hazard.firstEval ≠ none ∧ s.hazard.level = .lockout ∧ (∃ i, s.hazard.image = some i ∧ i.content.level = some .alarm)
      ∧ alarmCondition s.hazard.set = true ∧ s.hazard.dischargedInput.taken = false :=
  ⟨up.withHazard fun x => { x with
    evaluated := false, firstEval := some 2000, level := .lockout, image := some ⟨false, 0, alarmContent⟩, set := [.manual] }, by decide, rfl, ⟨_, rfl, rfl⟩, rfl, rfl⟩

theorem witness_FirstEvaluation_stays :
    ∃ s : State, s.hazard.firstEval ≠ none ∧ s.hazard.level = .lockout ∧ alarmCondition s.hazard.set = false :=
  ⟨up.withHazard fun x => { x with evaluated := false, firstEval := some 2000, level := .lockout, image := some ⟨false, 0, alarmContent⟩ }, by decide, rfl, rfl⟩

theorem witness_LevelTimers_escalation :
    ∃ s : State, s.hazard.escalation ≠ none :=
  ⟨up.withHazard fun x => { x with escalation := some 10000 }, by decide⟩

theorem witness_LevelTimers_fallBack :
    ∃ s : State, s.hazard.fallBack ≠ none :=
  ⟨up.withHazard fun x => { x with fallBack := some 10000 }, by decide⟩

theorem witness_LevelTimers_quiet :
    ∃ s : State, s.hazard.quiet ≠ none :=
  ⟨up.withHazard fun x => { x with quiet := some 10000 }, by decide⟩

theorem witness_LevelTimers_confirm :
    ∃ s : State, s.hazard.confirm ≠ none :=
  ⟨up.withHazard fun x => { x with confirm := some 10000 }, by decide⟩

theorem witness_LevelTimers_countdown :
    ∃ s : State, s.hazard.level = .alarm ∧ s.hazard.hold.taken = false ∧ s.hazard.door.taken = false
      ∧ s.hazard.dischargedInput.taken = false :=
  ⟨up.withHazard fun x => { x with level := .alarm }, rfl, rfl, rfl, rfl⟩

theorem witness_LevelTimers_discharged :
    ∃ s : State, s.hazard.level = .alarm ∧ s.hazard.hold.taken = false ∧ s.hazard.door.taken = false
      ∧ s.hazard.dischargedInput.taken = true :=
  ⟨up.withHazard fun x => { x with level := .alarm, dischargedInput := ⟨true, true, none⟩ }, rfl, rfl, rfl, rfl⟩

theorem witness_LevelTimers_held :
    ∃ s : State, s.hazard.hold.taken = true ∧ s.hazard.level = .alarm :=
  ⟨up.withHazard fun x => { x with level := .alarm, hold := ⟨true, true, none⟩ }, rfl, rfl⟩

/-- One command for each way to change the level, a state whose level timers follow its level, and the entry the history gains. -/
def levelChanges : List (Instr × State × HazardLevel × Cause) :=
  [(.gasLevelComparator .a .l1 50, up, .watch, .member .gasAL1),
    (.gasLevelComparator .b .l2 200, up, .preAlarm, .member .gasBL2),
    (.gasLevelComparator .b .l2 200, up.withHazard fun h => { h with level := .watch, set := [.heatRise] }, .alarm, .member .gasBL2),
    (.smokeLoopPersistenceExpiry .b,
      up.withHazard fun h => { h with level := .watch, set := [.smokeA], smokeB := ⟨.alarmBand, .normal, some 1000⟩ }, .alarm, .member .smokeB),
    (.contactInputSettled .callPoint, up.withHazard fun h => { h with callPoint := ⟨true, false, some 100⟩ }, .alarm, .member .manual),
    (.heatRiseSample, { (up.withHazard fun h => { h with rings := [[some 250, none, some 260]] ++ List.replicate 15 [some 250, none] }) with
        scan := { up.scan with summary := some { summaryOf 3399 with maxima := List.replicate 16 (some 270) } } }, .watch, .member .heatRise),
    (.moduleReport { goodReport 1 with temps := [650, 640, 640, 640] }, lastWindow, .preAlarm, .member .heatHigh),
    (.loopFaultComparator .a 359, up, .watch, .member .gasAFault),
    (.loopFaultComparator .a 2080, { (up.withHazard fun h => { h with set := [.gasAFault], level := .watch }) with
        analog := { up.analog with loopA := ⟨false, false, true⟩ } }, .preAlarm, .member .gasAL2),
    (.contactInputSettled .discharged, up.withHazard fun h => { h with dischargedInput := ⟨true, false, some 100⟩ }, .discharged, .panelDischarged),
    (.hazardFirstEvaluation, up.withHazard fun h => { h with evaluated := false, firstEval := some 2000, set := [.smokeA, .gasAFault] },
      .preAlarm, .member .smokeA),
    (.escalationTimerExpiry, up.withHazard fun h => { h with level := .preAlarm, set := [.heatHigh], escalation := some 300000 }, .alarm, .escalation),
    (.fallBackTimerExpiry, up.withHazard fun h => { h with level := .preAlarm, fallBack := some 60000 }, .watch, .fallBack),
    (.quietTimerExpiry, up.withHazard fun h => { h with level := .watch, quiet := some 60000 }, .clear, .fallBack),
    (.countdownEnd, alarmed, .releasing, .countdownEnd),
    (.maintenanceClear, turning alarmed, .clear, .maintClear),
    (.contactInputSettled .keySwitch, turning alarmed, .clear, .maintClear)]

theorem levelChanges_move : ∀ x ∈ levelChanges, x.1.starts = false
    ∧ (x.2.1.hazard.evaluated = true → x.2.1.hazard.level.isAlarm = false → (risingLevel x.2.1.hazard.set).code ≤ x.2.1.hazard.level.code)
    ∧ (x.2.1.hazard.escalation ≠ none ↔ x.2.1.hazard.level = .preAlarm ∧ preCondition x.2.1.hazard.set = true)
    ∧ (x.2.1.hazard.fallBack ≠ none ↔ x.2.1.hazard.level = .preAlarm ∧ preCondition x.2.1.hazard.set = false)
    ∧ (x.2.1.hazard.quiet ≠ none ↔ x.2.1.hazard.level = .watch ∧ x.2.1.hazard.set = [])
    ∧ gives x.1 x.2.1 (fun t => decide (t.hazard.level = x.2.2.1 ∧ t.hazard.history = [⟨x.2.1.hazard.level, x.2.2.1, x.2.2.2, 7⟩]
        ∧ (t.line.urgent.map (·.level)) = some x.2.2.1)) = true := by
  decide +kernel

/-- The rule of `LevelTimers` over all commands: states that meet its premises, each with a command that changes the level. -/
theorem witness_LevelTimers_changes (x : Instr × State × HazardLevel × Cause) (h : x ∈ levelChanges) :
    x.1.starts = false ∧ x.2.1.hazard.LevelTimersFollow ∧ gives x.1 x.2.1 (fun t => decide (t.hazard.level = x.2.2.1)) = true := by
  obtain ⟨start, risen, escalation, fallBack, quiet, moves⟩ := levelChanges_move x h
  refine ⟨start, ⟨risen, escalation, fallBack, quiet⟩, ?_⟩
  unfold gives at moves ⊢
  split at moves
  · exact decide_eq_true (of_decide_eq_true moves).1
  · cases moves

/-- The clauses without a change of level: in PRE_ALARM the last member leaves and the fall-back timer starts; in WATCH the quiet timer. -/
theorem witness_LevelTimers_unchanged :
    let s (level : HazardLevel) (timer : Timer) (i : Indication) (c : LoopComparators) : State :=
      { (up.withHazard fun h => { h with level := level, set := [i], escalation := timer }) with analog := { up.analog with loopA := c } }
    gives (.gasLevelComparator .a .l2 100) (s .preAlarm (some 9) .gasAL2 ⟨false, true, false⟩)
        (fun t => decide (t.hazard.level = .preAlarm ∧ t.hazard.escalation = none ∧ t.hazard.fallBack = some 0)) = true
      ∧ gives (.gasLevelComparator .a .l1 10) (s .watch none .gasAL1 ⟨true, false, false⟩)
        (fun t => decide (t.hazard.level = .watch ∧ t.hazard.quiet = some 0)) = true := by
  decide +kernel

theorem witness_LockoutWrites_start :
    ∃ (s : State) (content : LockoutContent), s.Running ∧ s.loader.writeStore = some content ∧ s.loader.writing = none :=
  ⟨{ up with loader := { up.loader with writeStore := some alarmContent } }, alarmContent, rfl, rfl, rfl⟩

theorem witness_LockoutWrites_retry :
    ∃ (s : State) (content : LockoutContent), s.hazard.retry ≠ none ∧ s.hazard.retryContent = some content :=
  ⟨up.withHazard (fun x => { x with retry := some 1000, retryContent := some alarmContent }), alarmContent, by decide, rfl⟩

theorem writing_canonical : writing.MemoryCanonical := by exact (by decide : Memory.wf [])

theorem witness_LockoutWrites_success :
    ∃ (s : State) (x : SlotWrite) (held : List Byte) (ms : Nat), s.MemoryCanonical ∧ s.loader.writing = some x
      ∧ s.loader.writeTimer = some ms ∧ held.length = 16 ∧ held = slotBytes x ∧ ms = 9 ∧ s.conn.phase ≠ .opened :=
  ⟨{ writing with conn := { up.conn with phase := .locked } }, ⟨false, 0, alarmContent⟩, slotBytes ⟨false, 0, alarmContent⟩, 9,
    writing_canonical, rfl, rfl, by decide +kernel, rfl, rfl, by decide⟩

theorem witness_LockoutWrites_failure :
    ∃ (s : State) (x : SlotWrite) (held : List Byte) (ms : Nat), s.MemoryCanonical ∧ s.loader.writing = some x
      ∧ s.loader.writeTimer = some ms ∧ held.length = 16 ∧ held ≠ slotBytes x :=
  ⟨writing, ⟨false, 0, alarmContent⟩, List.replicate 16 0xFF#8, 9, writing_canonical, rfl, rfl, rfl, by decide +kernel⟩

theorem witness_LockoutWrites_late :
    ∃ (s : State) (x : SlotWrite) (held : List Byte) (ms : Nat), s.MemoryCanonical ∧ s.loader.writing = some x
      ∧ s.loader.writeTimer = some ms ∧ held.length = 16 ∧ held = slotBytes x ∧ ms = 10 :=
  ⟨{ writing with loader := { writing.loader with writeTimer := some 10 } }, ⟨false, 0, alarmContent⟩,
    slotBytes ⟨false, 0, alarmContent⟩, 10, writing_canonical, rfl, rfl, by decide +kernel, rfl, rfl⟩

theorem witness_LockoutSurvivesReset :
    ∃ x : SlotWrite, x.seq = 2 ∧ x.content.uptime = 4294967295 ∧ x.content.level = some .alarm :=
  ⟨⟨true, 2, { alarmContent with uptime := 4294967295 }⟩, rfl, rfl, rfl⟩

/-- The first slot holds a record, and an erase is being written into the second. -/
def erasing : State :=
  { (up.withHazard fun x => { x with image := some ⟨false, 2, alarmContent⟩ }) with
    mem := Memory.writeBytes [] 1024 (slotBytes ⟨false, 2, alarmContent⟩)
    loader := { up.loader with writing := some ⟨true, 0, ⟨none, .none, 9⟩⟩, writeTimer := some 9 } }

theorem witness_LockoutSurvivesReset_step :
    ∃ (s t : State) (content : LockoutContent) (ms : Nat), s.MemoryCanonical ∧ imageOf s.mem = s.hazard.image
      ∧ s.loader.writing = some (match s.hazard.image with
        | some i => ⟨!i.second, (i.seq + 1) % 3, content⟩
        | none => ⟨false, 0, content⟩)
      ∧ s.loader.writeTimer = some ms ∧ ms < 10 ∧ content.level = none ∧ content.uptime ≤ 4294967295
      ∧ ∀ x, s.loader.writing = some x → exec (.lockoutWriteCompletion true (slotBytes x)) s = .next t :=
  ⟨erasing, _, ⟨none, .none, 9⟩, 9, by exact (by decide +kernel : Memory.wf erasing.mem), by decide +kernel, rfl, rfl, by decide, rfl,
    by decide, fun x h => by cases h; rfl⟩

theorem witness_MaintenanceClears :
    ∃ (c : Instr) (s : State), (c = .maintenanceClear ∨ c = .contactInputSettled .keySwitch) ∧ s.Running ∧ s.key.timer ≠ none
      ∧ s.key.terminal = true
      ∧ s.key.taken = false ∧ (∀ i ∈ s.hazard.set, i.isIndication = false) ∧ s.hazard.level.isAlarm = true :=
  ⟨.maintenanceClear, { alarmed with key := ⟨true, false, some 100⟩ }, .inl rfl, rfl, by decide, rfl, rfl, nofun, rfl⟩

theorem witness_MaintenanceClears_ignored :
    ∃ (c : Instr) (s : State), (c = .maintenanceClear ∨ c = .contactInputSettled .keySwitch) ∧ s.Running ∧ s.key.timer ≠ none
      ∧ s.key.terminal = true
      ∧ s.key.taken = false ∧ ∃ i ∈ s.hazard.set, i.isIndication = true :=
  ⟨.contactInputSettled .keySwitch, { (up.withHazard fun x => { x with set := [.heatRise] }) with key := ⟨true, false, some 100⟩ }, .inr rfl, rfl, by decide, rfl, rfl, by decide⟩

/-- The unit clauses of `MaintenanceClears`: a LOST module beside one that is not; a cooling stage without its compressor; CLEAR. -/
theorem witness_MaintenanceClears_units :
    ∃ s : State, s.Running ∧ s.key.timer ≠ none ∧ s.key.terminal = true ∧ s.key.taken = false ∧ s.Configured
      ∧ (∃ m ∈ s.scan.modules, m.check = .lost) ∧ (∃ m ∈ s.scan.modules, m.check ≠ .lost) ∧ s.thermal.forced = .none
      ∧ s.thermal.stage = .cool2 ∧ s.thermal.compressor = false ∧ s.hazard.level.isAlarm = false ∧ s.hazard.set = [] :=
  ⟨{ (up.withScan fun x => { x with modules := changeAt (fun m => { m with check := .lost }) 3 x.modules }) with
      key := ⟨true, false, some 100⟩, thermal := { up.thermal with stage := .cool2, compressorFailed := true } },
    rfl, by decide, rfl, rfl, ⟨rfl, rfl⟩, by decide, by decide, rfl, rfl, rfl, rfl, rfl⟩

/-- R183: LOCKED by FAILURES alone, and by HAZARD at ALARM without an indication; with DUPLICATE beside, and with an indication present. -/
theorem witness_MaintenanceClears_locks :
    (∀ s ∈ [(inPhase .locked up, LockReasons.mk true false false), (inPhase .locked alarmed, ⟨true, true, false⟩)],
        gives .maintenanceClear (turning { s.1 with conn := { s.1.conn with locks := s.2 } })
          (fun t => decide (t.conn.phase = .opened ∧ t.conn.locks = ⟨false, false, false⟩)) = true)
      ∧ gives .maintenanceClear (turning { alarmed with conn := { alarmed.conn with locks := ⟨true, true, true⟩ } })
          (fun t => decide (t.conn.phase = .locked ∧ t.conn.locks = ⟨false, false, true⟩)) = true
      ∧ gives .maintenanceClear (turning { alarmed with hazard := { alarmed.hazard with set := [.manual] } })
          (fun t => decide (t.conn.phase = .locked ∧ t.conn.locks = ⟨false, true, false⟩)) = true := by
  decide +kernel

/-- R50, R56: the failure of a compressor cleared in COOL_FORCED, with the minimum-off timer stopped and running. -/
theorem witness_MaintenanceClears_forced :
    ∀ minOff ∈ [none, some 299999],
      let s := turning { (up.withHazard fun x => { x with level := .preAlarm, set := [.heatHigh] }) with
        thermal := { up.thermal with forced := .coolForced, compressorFailed := true, minOff := minOff } }
      s.thermal.need = .none ∧ s.thermal.compressor = false
        ∧ gives .maintenanceClear s (fun t => decide (t.thermal.compressor = minOff.isNone ∧ t.thermal.minOff = minOff)) = true := by
  decide +kernel

/-! ### Limit, share and the grid connection -/

/-- Connected, with the setpoint at `p`, 250 kW of capability, a dispatch of `site` kW at `ramp` kW/s, and 5 tenths carried. -/
def dispatched (p site : Int) (ramp : Nat) : State :=
  { connected with
    peers := { connected.peers with dispatch := ⟨.current, some 12, site, ramp, some .run, some 0⟩ }
    limit := { up.limit with setpoint := p, cDis := 250, cChg := 250, residue := 5 }
    conn := { connected.conn with answered := true } }

theorem witness_SetpointStepsToTarget :
    ∃ s : State, s.Configured ∧ s.limit.period ≠ none ∧ s.conn.phase = .connected ∧ s.conn.answered = true
      ∧ s.peers.dispatch.mode ≠ some .stop ∧ s.limit.setpoint = 50 :=
  ⟨dispatched 50 100 200, ⟨rfl, rfl⟩, by decide, rfl, rfl, by decide, rfl⟩

/-- The clauses of `SetpointStepsToTarget`: 20.5 kW a period with 5 tenths carried make 21; up, down, and onto a target 21 kW away. -/
theorem witness_SetpointStepsToTarget_steps :
    gives .setpointPeriod (dispatched 50 72 205) (fun t => decide (t.limit.target = 72 ∧ t.limit.setpoint = 71 ∧ t.limit.residue = 0))
        = true
      ∧ gives .setpointPeriod (dispatched 50 28 204) (fun t => decide (t.limit.setpoint = 30 ∧ t.limit.residue = 9)) = true
      ∧ gives .setpointPeriod (dispatched 50 71 205) (fun t => decide (t.limit.setpoint = 71 ∧ t.limit.residue = 0)) = true := by
  decide +kernel

/-- The share computation of a period that steps nothing: in OPEN, and with the setpoint at its target; and the period that ends CONNECTED on
STOP, its setpoint at 0. -/
theorem witness_SetpointStepsToTarget_shares :
    gives .setpointPeriod (inPhase .opened (dispatched 0 72 205))
        (fun t => decide (t.conn.phase = .opened ∧ t.limit.basis = .zeroNotConnected ∧ t.limit.target = 0)) = true
      ∧ gives .setpointPeriod (dispatched 100 100 205) (fun t => decide (t.limit.basis = .share ∧ t.limit.setpoint = 100)) = true
      ∧ gives .setpointPeriod
          { dispatched 0 100 205 with peers := { up.peers with dispatch := ⟨.current, some 12, 100, 205, some .stop, some 0⟩ } }
          (fun t => decide (t.conn.phase ≠ .connected ∧ t.limit.setpoint = 0 ∧ t.limit.basis = .zeroNotConnected)) = true := by
  decide +kernel

/-- The clauses of `ShareWithinBounds`: a share in each direction, at the capability, HOLD, STOP, and the bases that give 0. -/
theorem witness_ShareWithinBounds :
    let shared (s : State) : LimitState := (computeShare (Work.start s)).limit
    let d (site : Int) (c : DispatchCondition) (m : DispatchMode) : EffectiveDispatch := ⟨c, some 12, site, 200, some m, some 0⟩
    let s (p : Int) (e : EffectiveDispatch) : State := { dispatched p 0 1 with peers := { up.peers with dispatch := e } }
    ((shared (s 0 (d 100 .current .run))).basis = .share ∧ (shared (s 0 (d 100 .current .run))).target = 100)
      ∧ (shared (s 0 (d 251 .current .run))).target = 250 ∧ (shared (s 0 (d (-251) .current .run))).target = -250
      ∧ (shared (s (-90) (d (-80) .current .hold))).target = -80 ∧ (shared (s 50 (d 80 .current .stop))).basis = .stop
      ∧ (shared (s 0 (d 0 .current .run))).basis = .zeroSite ∧ (shared (s 0 (d 80 .stale .run))).basis = .zeroStale
      ∧ (shared up).basis = .zeroNotConnected
      ∧ (shared { s 0 (d 80 .current .run) with limit := up.limit }).basis = .zeroWeight := by
  decide +kernel

/-- The publication clauses of `ShareWithinBounds`: valid temperatures, within and at an end of the table; and no valid temperature. -/
theorem witness_ShareWithinBounds_published :
    publishes (report 3300 250) lastWindow (fun t => decide (t.limit.tempDis = 1000 ∧ t.limit.pDis = t.limit.iDis * 66000 / 1000000))
        = true
      ∧ publishes (report 2900 500) lastWindow (fun t => decide (t.limit.tempDis = 500 ∧ t.limit.tempChg = 0 ∧ t.limit.voltDis = 500))
        = true
      ∧ gives (.moduleReport { report 3300 1251 with temps := [1251, -401, 1251, 1251] }) lastWindow
        (fun t => decide (t.scan.summary.isSome ∧ t.limit.tempDis = 0 ∧ t.limit.tempChg = 0)) = true := by
  decide +kernel

/-- A round of one module that completes in CONNECTED, with the setpoint at `p`. -/
def publishing (p : Int) : State :=
  { dispatched p 100 200 with
    scan := lastWindow.scan, loader := lastWindow.loader, analog := up.analog
    thermal := { up.thermal with need := .starting }
    limit := { (dispatched p 100 200).limit with thermalDerate := 1000, hazardDerate := 1000, visibility := 1000 } }

/-- The clamp at a publication in CONNECTED: the premises, and a setpoint above the new capability of its direction, below it, and within. -/
theorem witness_ShareWithinBounds_clamps :
    (publishing 240).VisibilityFollows ∧ (∀ x, (publishing 240).LadderRests x)
      ∧ (∀ x ∈ [((240 : Int), (18 : Int), 0), (-240, -18, 0), (5, 5, 5)],
          publishes (report 3300 250) (publishing x.1) (fun t => decide (t.conn.phase = .connected ∧ t.hazard.set = []
            ∧ t.limit.setpoint = x.2.1 ∧ t.limit.residue = x.2.2)) = true) :=
  ⟨⟨by decide, fun h => absurd rfl h⟩, fun _ => .inr (.inl rfl), by decide +kernel⟩

/-- The end of a tach window that changes the derate, and one that does not. -/
theorem witness_ShareWithinBounds_tach :
    let s : State := { dispatched 240 100 200 with limit := { (dispatched 240 100 200).limit with summaryPresent := true, pDis := 250, pChg := 250 } }
    gives .tachWindowEnd { s with thermal := { s.thermal with pump := ⟨40, 40, 9, false, 4, 0, false⟩ } }
        (fun t => decide (t.limit.thermalDerate ≠ s.limit.thermalDerate ∧ t.limit.setpoint = 0 ∧ t.limit.residue = 0)) = true
      ∧ gives .tachWindowEnd s (fun t => decide (t.limit.thermalDerate = s.limit.thermalDerate ∧ t.limit = s.limit)) = true := by
  decide +kernel

theorem witness_SetpointFrame :
    ∃ s : State, s.Configured ∧ s.limit.period ≠ none :=
  ⟨up, ⟨rfl, rfl⟩, by decide⟩

/-- The fifth miss in every state, with 0, 1 and 2 failures counted before, and with DUPLICATE clear. -/
theorem witness_ConverterLink_lost :
    ∀ x ∈ [(ConnPhase.opened, ConnPhase.opened, 1), (.waitPermit, .opened, 1), (.precharging, .tripped, 2), (.dcClosed, .tripped, 2),
        (.connected, .tripped, 1), (.rideThrough, .tripped, 1), (.disconnecting, .tripped, 1), (.tripped, .tripped, 1), (.locked, .locked, 1)],
      let s := inPhase x.1 { connected with conn := { connected.conn with misses := 4, failures := 1 } }
      s.loader.startKind = some .configured ∧ s.limit.period ≠ none ∧ s.conn.lastFrame ≠ none ∧ s.conn.answered = false
        ∧ s.conn.linkUp = true ∧ s.line.duplicate = false
        ∧ gives .setpointPeriod s (fun t => decide (t.conn.linkUp = false ∧ t.conn.phase = x.2.1 ∧ t.conn.failures = x.2.2)) = true := by
  decide +kernel

/-- The link lost in a sequence that holds the permit: the third failure in a row locks, and the hold is let go. -/
theorem witness_ConverterLink_lost_sequence :
    ∀ x ∈ [(0, ConnPhase.tripped, false), (1, .tripped, false), (2, .locked, true)],
      gives .setpointPeriod { holding with conn := { holding.conn with misses := 4, failures := x.1, lastFrame := some (0, 0), linkUp := true } }
        (fun t => decide (holding.permit.queue = [] ∧ t.conn.phase = x.2.1 ∧ t.conn.locks.failures = x.2.2
          ∧ t.permit.lastHold = some ⟨.precharge, .notStarted, holding.permit.heldAt, 7⟩)) = true := by
  decide +kernel

/-- The fourth miss keeps the link UP, a frame that was answered counts none, and a LOST link counts on. -/
theorem witness_ConverterLink_miss :
    let s : State := { connected with conn := { connected.conn with misses := 3 } }
    s.loader.startKind = some .configured ∧ s.limit.period ≠ none ∧ s.conn.lastFrame ≠ none ∧ s.line.duplicate = false
      ∧ gives .setpointPeriod s (fun t => decide (t.conn.misses = 4 ∧ t.conn.linkUp = true)) = true
      ∧ gives .setpointPeriod { s with conn := { s.conn with answered := true } } (fun t => decide (t.conn.misses = 3)) = true
      ∧ gives .setpointPeriod { s with conn := { s.conn with linkUp := false } }
        (fun t => decide (t.conn.misses = 4 ∧ t.conn.linkUp = false)) = true := by
  decide +kernel

theorem witness_ConverterLink_refused :
    ∃ (a : ConverterAnswer) (s : State), ∀ v, s.conn.lastFrame ≠ some (a.seqEcho, v) :=
  ⟨{ goodAnswer with seqEcho := 1 }, connected, nofun⟩

theorem witness_ConverterLink_accepted :
    ∃ (a : ConverterAnswer) (s : State), s.Configured ∧ a.checkGood = true ∧ (∃ v, s.conn.lastFrame = some (a.seqEcho, v)) :=
  ⟨goodAnswer, connected, ⟨rfl, rfl⟩, rfl, ⟨_, rfl⟩⟩

theorem witness_AnswerMovesState_precharging :
    ∃ (a : ConverterAnswer) (s : State) (v : Nat), s.Configured ∧ a.checkGood = true
      ∧ (∃ v, s.conn.lastFrame = some (a.seqEcho, v)) ∧ s.line.duplicate = false ∧ s.peers.dispatch.mode ≠ some .run
      ∧ s.conn.phase = .precharging ∧ a.fault = false ∧ a.grid = .healthy ∧ s.conn.threshold = some v ∧ a.dcLink = v :=
  ⟨goodAnswer, { connected with conn := { connected.conn with phase := .precharging, drives := drivesOf .precharging, threshold := some 1000000 } }, 1000000, ⟨rfl, rfl⟩, rfl, ⟨_, rfl⟩, rfl, by decide, rfl, rfl, rfl, rfl, rfl⟩

theorem witness_AnswerMovesState_dcClosed :
    ∃ (a : ConverterAnswer) (s : State), s.Configured ∧ a.checkGood = true ∧ (∃ v, s.conn.lastFrame = some (a.seqEcho, v))
      ∧ s.line.duplicate = false ∧ s.peers.dispatch.mode ≠ some .run
      ∧ s.conn.phase = .dcClosed ∧ a.fault = false ∧ a.grid = .healthy ∧ a.ready = true :=
  ⟨{ goodAnswer with ready := true }, { connected with conn := { connected.conn with phase := .dcClosed, drives := drivesOf .dcClosed } }, ⟨rfl, rfl⟩, rfl, ⟨_, rfl⟩, rfl, by decide, rfl, rfl, rfl, rfl⟩

theorem witness_AnswerMovesState_healthy :
    ∃ (a : ConverterAnswer) (s : State), s.Configured ∧ a.checkGood = true ∧ (∃ v, s.conn.lastFrame = some (a.seqEcho, v))
      ∧ s.line.duplicate = false ∧ s.peers.dispatch.mode ≠ some .run
      ∧ s.conn.phase = .connected ∧ a.fault = false ∧ a.grid = .healthy :=
  ⟨goodAnswer, connected, ⟨rfl, rfl⟩, rfl, ⟨_, rfl⟩, rfl, by decide, rfl, rfl, rfl⟩

theorem witness_AnswerMovesState_rides :
    ∃ (a : ConverterAnswer) (s : State), s.Configured ∧ a.checkGood = true ∧ (∃ v, s.conn.lastFrame = some (a.seqEcho, v))
      ∧ s.line.duplicate = false ∧ s.peers.dispatch.mode ≠ some .run
      ∧ s.conn.phase = .connected ∧ a.fault = false ∧ a.grid ≠ .healthy ∧ s.loader.cfg.rideThrough ≠ 0 :=
  ⟨{ goodAnswer with grid := .absent }, connected, ⟨rfl, rfl⟩, rfl, ⟨_, rfl⟩, rfl, by decide, rfl, rfl, by decide, by decide⟩

theorem witness_AnswerMovesState_noRide :
    ∃ (a : ConverterAnswer) (s : State), s.Configured ∧ a.checkGood = true ∧ (∃ v, s.conn.lastFrame = some (a.seqEcho, v))
      ∧ s.line.duplicate = false ∧ s.peers.dispatch.mode ≠ some .run
      ∧ s.conn.phase = .connected ∧ a.fault = false ∧ a.grid ≠ .healthy ∧ s.loader.cfg.rideThrough = 0 :=
  ⟨{ goodAnswer with grid := .outOfWindow },
    { connected with loader := { up.loader with cfg := { Settings.defaults with rideThrough := 0 } } }, ⟨rfl, rfl⟩, rfl, ⟨_, rfl⟩, rfl, by decide, rfl, rfl, by decide, rfl⟩

theorem witness_AnswerMovesState_rideThrough :
    ∃ (a : ConverterAnswer) (s : State), s.Configured ∧ a.checkGood = true ∧ (∃ v, s.conn.lastFrame = some (a.seqEcho, v))
      ∧ s.line.duplicate = false ∧ s.peers.dispatch.mode ≠ some .run
      ∧ s.conn.phase = .rideThrough ∧ a.fault = false ∧ a.grid = .healthy :=
  ⟨goodAnswer, { connected with conn := { connected.conn with phase := .rideThrough, drives := drivesOf .rideThrough } }, ⟨rfl, rfl⟩, rfl, ⟨_, rfl⟩, rfl, by decide, rfl, rfl, rfl⟩

theorem witness_AnswerMovesState_disconnecting :
    ∃ (a : ConverterAnswer) (s : State), s.Configured ∧ a.checkGood = true ∧ (∃ v, s.conn.lastFrame = some (a.seqEcho, v))
      ∧ s.line.duplicate = false ∧ s.peers.dispatch.mode ≠ some .run
      ∧ s.conn.phase = .disconnecting ∧ a.fault = false ∧ a.power.natAbs < s.loader.cfg.rating * 5 / 100 :=
  ⟨{ goodAnswer with power := -11 }, { connected with conn := { connected.conn with phase := .disconnecting, drives := drivesOf .disconnecting } }, ⟨rfl, rfl⟩, rfl, ⟨_, rfl⟩, rfl, by decide, rfl, rfl, by decide⟩

theorem witness_AnswerMovesState_fault :
    ∃ (a : ConverterAnswer) (s : State), s.Configured ∧ a.checkGood = true ∧ (∃ v, s.conn.lastFrame = some (a.seqEcho, v))
      ∧ s.line.duplicate = false ∧ s.peers.dispatch.mode ≠ some .run
      ∧ s.conn.phase = .connected ∧ a.fault = true :=
  ⟨{ goodAnswer with fault := true }, connected, ⟨rfl, rfl⟩, rfl, ⟨_, rfl⟩, rfl, by decide, rfl, rfl⟩

theorem witness_AnswerMovesState_rests (p : ConnPhase) :
    ∃ (a : ConverterAnswer) (s : State), s.Configured ∧ a.checkGood = true ∧ (∃ v, s.conn.lastFrame = some (a.seqEcho, v))
      ∧ s.line.duplicate = false ∧ s.peers.dispatch.mode ≠ some .run ∧ s.conn.phase = p ∧ a.grid ≠ .healthy ∧ a.fault = false :=
  ⟨{ goodAnswer with grid := .absent }, { connected with conn := { connected.conn with phase := p, drives := drivesOf p } }, ⟨rfl, rfl⟩,
    rfl, ⟨_, rfl⟩, rfl, by cases p <;> decide, rfl, by decide, rfl⟩

/-- An abort by a fault, the second failure and the third, in either state of the sequence. -/
theorem witness_AnswerMovesState_aborts (p : ConnPhase) (n : Nat) :
    ∃ (a : ConverterAnswer) (s : State), s.Configured ∧ a.checkGood = true ∧ (∃ v, s.conn.lastFrame = some (a.seqEcho, v))
      ∧ s.line.duplicate = false ∧ s.peers.dispatch.mode ≠ some .run ∧ s.conn.phase = p ∧ a.fault = true ∧ s.conn.failures = n :=
  ⟨{ goodAnswer with fault := true }, { connected with conn := { connected.conn with phase := p, drives := drivesOf p, failures := n } },
    ⟨rfl, rfl⟩, rfl, ⟨_, rfl⟩, rfl, nofun, rfl, rfl, rfl⟩

/-- The moves of `AnswerMovesState` with a current dispatch of mode RUN, in which OPEN is left at once after the end of DISCONNECTING. -/
theorem witness_AnswerMovesState_run :
    let dispatch : EffectiveDispatch := ⟨.current, some 9, 100, 0, some .run, some 0⟩
    let s : State := { connected with
      scan := { connected.scan with summary := some (summaryOf 3300) }
      peers := { connected.peers with dispatch := dispatch, service := .inService }
      conn := { connected.conn with threshold := some 1000000, gridReached := true } }
    ∀ x ∈ [(ConnPhase.waitPermit, { goodAnswer with grid := .absent }, ConnPhase.opened),
        (.precharging, goodAnswer, .dcClosed), (.precharging, { goodAnswer with fault := true }, .tripped),
        (.precharging, { goodAnswer with grid := .absent }, .tripped), (.dcClosed, { goodAnswer with ready := true }, .connected),
        (.connected, goodAnswer, .connected), (.connected, { goodAnswer with grid := .absent }, .rideThrough),
        (.connected, { goodAnswer with fault := true }, .tripped), (.rideThrough, goodAnswer, .connected),
        (.disconnecting, { goodAnswer with power := -13 }, .disconnecting), (.disconnecting, { goodAnswer with power := -11 }, .precharging)],
      (inPhase x.1 s).peers.dispatch.mode = some .run
        ∧ gives (.converterAnswer x.2.1) (inPhase x.1 s) (fun t => decide (t.conn.phase = x.2.2)) = true := by
  decide +kernel

/-- R168: the last exit of every clause of `AnswerMovesState` that leaves a state, and of those that do not. -/
theorem witness_AnswerMovesState_exits :
    let s : State := { connected with conn := { connected.conn with threshold := some 1000000, exitPending := some .stop } }
    (∀ x ∈ [(ConnPhase.precharging, { goodAnswer with dcLink := 1000000 }), (.dcClosed, { goodAnswer with ready := true }),
          (.rideThrough, goodAnswer), (.disconnecting, { goodAnswer with power := -11 })],
        gives (.converterAnswer x.2) (inPhase x.1 s) (fun t => decide (t.conn.phase ≠ x.1 ∧ exitOf t = some (x.1, 7))) = true)
      ∧ (∀ x ∈ [(ConnPhase.precharging, { goodAnswer with dcLink := 999999 }), (.dcClosed, { goodAnswer with ready := false }),
            (.connected, goodAnswer), (.rideThrough, { goodAnswer with grid := .absent }),
            (.disconnecting, { goodAnswer with power := 12 })],
          gives (.converterAnswer x.2) (inPhase x.1 s) (fun t => decide (t.conn.phase = x.1 ∧ exitOf t = none)) = true)
      ∧ gives (.converterAnswer { goodAnswer with grid := .outOfWindow }) s
          (fun t => decide (t.conn.lastExit = some ⟨.gridLost, .connected, 7⟩)) = true := by
  decide +kernel

theorem witness_GridDelayReached :
    ∃ s : State, s.Configured ∧ s.conn.gridTimer ≠ none ∧ s.conn.gridReached = false ∧ s.conn.phase ≠ .opened :=
  ⟨awaitingGrid connected, ⟨rfl, rfl⟩, by decide, rfl, by decide⟩

theorem witness_GridDelayReached_leaves :
    ∃ s : State, s.Configured ∧ s.conn.gridTimer ≠ none ∧ s.conn.gridReached = false ∧ s.conn.phase = .opened ∧ s.scan.summary ≠ none
      ∧ s.hazard.level.code ≤ 1 ∧ (∀ i, s.hazard.image = some i → i.content.level = none) ∧ s.scan.visibilityLost = false
      ∧ s.conn.tripDischarge = false ∧ s.conn.tripCharge = false ∧ s.conn.linkUp = true ∧ s.peers.dispatch.condition = .current
      ∧ s.peers.dispatch.mode = some .run ∧ s.peers.service = .inService ∧ s.line.duplicate = false :=
  ⟨awaitingGrid { (up.withScan fun x => { x with summary := some (summaryOf 3399) }) with
      conn := { up.conn with linkUp := true }
      peers := { up.peers with service := .inService, dispatch := ⟨.current, some 12, 100, 200, some .run, some 0⟩ } },
    ⟨rfl, rfl⟩, by decide, rfl, rfl, by decide, by decide, nofun, rfl, rfl, rfl, rfl, rfl, rfl, rfl, rfl⟩

theorem witness_SequenceTimeouts :
    ∃ s : State, s.Configured ∧ s.conn.phase = .precharging ∧ s.conn.stateTimer ≠ none ∧ s.line.duplicate = false
      ∧ s.conn.failures < 2 :=
  ⟨{ connected with conn := { connected.conn with phase := .precharging, drives := drivesOf .precharging, stateTimer := some 5000, failures := 1 } }, ⟨rfl, rfl⟩, rfl, by decide, rfl, by decide⟩

theorem witness_SequenceTimeouts_locks :
    ∃ s : State, s.Configured ∧ s.conn.phase = .dcClosed ∧ s.conn.stateTimer ≠ none ∧ s.line.duplicate = false ∧ 2 ≤ s.conn.failures :=
  ⟨{ connected with conn := { connected.conn with phase := .dcClosed, drives := drivesOf .dcClosed, stateTimer := some 2000, failures := 2 } }, ⟨rfl, rfl⟩, rfl, by decide, rfl, by decide⟩

theorem witness_LeavingTimers_rideThrough :
    ∃ s : State, s.Configured ∧ s.line.duplicate = false ∧ s.peers.dispatch.mode ≠ some .run ∧ s.conn.phase = .rideThrough
      ∧ s.conn.stateTimer ≠ none :=
  ⟨{ connected with conn := { connected.conn with phase := .rideThrough, drives := drivesOf .rideThrough, stateTimer := some 5000 } }, ⟨rfl, rfl⟩, rfl, by decide, rfl, by decide⟩

theorem witness_LeavingTimers_disconnecting :
    ∃ (s : State) (cause : ExitCause), s.Configured ∧ s.line.duplicate = false ∧ s.peers.dispatch.mode ≠ some .run
      ∧ s.conn.phase = .disconnecting ∧ s.conn.stateTimer ≠ none ∧ s.conn.exitPending = some cause :=
  ⟨{ connected with conn := { connected.conn with phase := .disconnecting, drives := drivesOf .disconnecting, stateTimer := some 5000, exitPending := some .stop } }, .stop, ⟨rfl, rfl⟩, rfl, by decide, rfl, by decide, rfl⟩

theorem witness_LeavingTimers_tripped :
    ∃ s : State, s.Configured ∧ s.line.duplicate = false ∧ s.peers.dispatch.mode ≠ some .run ∧ s.conn.phase = .tripped
      ∧ s.conn.stateTimer ≠ none :=
  ⟨{ connected with conn := { connected.conn with phase := .tripped, drives := drivesOf .tripped, stateTimer := some 60000 } }, ⟨rfl, rfl⟩, rfl, by decide, rfl, by decide⟩

theorem witness_LeavingTimers_visibility :
    ∃ s : State, s.Configured ∧ s.line.duplicate = false ∧ s.peers.dispatch.mode ≠ some .run ∧ s.conn.visibilityTimer ≠ none
      ∧ s.conn.phase = .connected :=
  ⟨{ connected with conn := { connected.conn with phase := .connected, drives := drivesOf .connected, visibilityTimer := some 5000 } }, ⟨rfl, rfl⟩, rfl, by decide, by decide, rfl⟩

theorem witness_LeavingTimers_visibility_rests :
    ∃ s : State, s.Configured ∧ s.line.duplicate = false ∧ s.peers.dispatch.mode ≠ some .run ∧ s.conn.visibilityTimer ≠ none
      ∧ s.conn.phase = .locked :=
  ⟨{ connected with conn := { connected.conn with phase := .locked, drives := drivesOf .locked, visibilityTimer := some 5000 } }, ⟨rfl, rfl⟩, rfl, by decide, by decide, rfl⟩

/-- The state that an orderly cause leaves, by the state that it finds. -/
def orderlyTo : List (ConnPhase × ConnPhase) :=
  [(.connected, .disconnecting), (.rideThrough, .disconnecting), (.precharging, .opened), (.dcClosed, .opened), (.waitPermit, .opened)]

/-- R174, R177, R180: PRE_ALARM by a smoke loop beside a gas fault, and by a round's summary of 65.0 °C, in each of those states. -/
theorem witness_LeavingTimers_preAlarm :
    ∀ x ∈ orderlyTo,
      gives (.smokeLoopPersistenceExpiry .a)
          (inPhase x.1 (up.withHazard fun h => { h with
            level := .watch, set := [.gasAFault], smokeA := ⟨.alarmBand, .normal, some 1000⟩ }))
          (fun t => decide (t.hazard.level = .preAlarm ∧ t.conn.phase = x.2)) = true
        ∧ publishes (report 3300 650) (inPhase x.1 lastWindow)
          (fun t => decide (t.hazard.level = .preAlarm ∧ t.conn.phase = x.2)) = true := by
  decide +kernel

/-- R178: mode STOP at the setpoint period in CONNECTED, with the setpoint at 0 and on its way there; R180, R183: DUPLICATE at the end of
DISCONNECTING. -/
theorem witness_LeavingTimers_stop :
    (∀ x ∈ [(0, ConnPhase.disconnecting), (1000, .connected)],
        gives .setpointPeriod
          { connected with
            peers := { up.peers with dispatch := ⟨.current, some 9, 0, 1, some .stop, some 0⟩ }
            limit := { up.limit with setpoint := x.1, cDis := 1000 } }
          (fun t => decide (t.conn.phase = x.2 ∧ (t.limit.setpoint = 0 ↔ x.1 = 0))) = true)
      ∧ gives .disconnectWaitExpiry
          { inPhase .disconnecting (up.withConn fun c => { c with stateTimer := some 2000, exitPending := some .stop }) with
            line := { up.line with duplicate := true } }
          (fun t => decide (t.conn.phase = .locked ∧ exitOf t = some (.disconnecting, 7))) = true := by
  decide +kernel

/-- R168: a command that leaves one of the five states, by a timer, by an immediate open and through RIDE_THROUGH in one event. -/
theorem witness_LeavingTimers_exits :
    (∀ x ∈ [(Instr.readyTimeout, ConnPhase.dcClosed, ConnPhase.dcClosed), (.rideThroughExpired, .rideThrough, .rideThrough),
          (.disconnectWaitExpiry, .disconnecting, .disconnecting), (.fastTripComparator .charge (-4000), .precharging, .precharging)],
        gives x.1 (inPhase x.2.1 (up.withConn fun c => { c with stateTimer := some 0, exitPending := some .stop }))
          (fun t => decide (t.loader.startKind = some .configured ∧ t.conn.phase ≠ x.2.1 ∧ exitOf t = some (x.2.2, 7))) = true)
      ∧ gives (.converterAnswer { goodAnswer with grid := .absent })
          { connected with loader := { connected.loader with cfg := { connected.loader.cfg with rideThrough := 0 } } }
          (fun t => decide (t.conn.phase = .opened ∧ t.conn.lastExit = some ⟨.rideThroughExpired, .rideThrough, 7⟩)) = true := by
  decide +kernel

/-- R174, R177: the dispatch becomes STALE. -/
theorem witness_LeavingTimers_stale :
    ∀ p ∈ [ConnPhase.waitPermit, .precharging, .dcClosed],
      gives .stalenessTimerExpiry
        { inPhase p up with peers := { up.peers with dispatch := ⟨.current, some 12, 100, 200, some .run, some 10000⟩ } }
        (fun t => decide (t.conn.phase = .opened ∧ t.peers.dispatch.staleness = none)) = true := by
  decide +kernel

/-! ### The station line -/

theorem witness_ReceiverMoves_hunt :
    ∃ s : State, s.Running ∧ s.line.tx ≠ .sending ∧ s.loader.listenOnly = false ∧ s.line.rx = .hunt :=
  ⟨up, rfl, by decide, rfl, rfl⟩

theorem witness_ReceiverMoves_notHunt :
    ∃ s : State, s.Running ∧ s.line.tx ≠ .sending ∧ s.loader.listenOnly = false ∧ s.line.rx ≠ .hunt :=
  ⟨up.withLine fun l => { l with rx := .receiving, rxBuf := [0xA5#8] }, rfl, by decide, rfl, by decide⟩

theorem witness_ReceiverMoves_trailing :
    ∃ s : State, s.Running ∧ s.line.tx ≠ .sending ∧ s.loader.listenOnly = false ∧ s.line.rx = .hunt ∧ s.line.idle = 11 :=
  ⟨up.withLine fun l => { l with idle := 11 }, rfl, by decide, rfl, rfl, rfl⟩

/-- The fault clauses of `ReceiverMoves` in RECEIVING, after 0, 1 and 5 characters. -/
theorem witness_ReceiverMoves_fault (buf : List Byte) :
    ∃ s : State, s.Running ∧ s.line.tx ≠ .sending ∧ s.loader.listenOnly = false ∧ s.line.rx = .receiving ∧ s.line.rxBuf = buf :=
  ⟨up.withLine fun l => { l with rx := .receiving, rxBuf := buf }, rfl, nofun, rfl, rfl, rfl⟩

/-- R121, R126: a wrong second character, a length of 49, and a first character after a deferral on a quiet line. -/
theorem witness_ReceiverMoves_characters :
    gives (.characterTaken 0x3D#8) (up.withLine fun l => { l with rx := .receiving, rxBuf := [0xA5#8] })
        (fun t => decide (t.line.rx = .discard ∧ t.line.errors = 1)) = true
      ∧ gives (.characterTaken 49#8) (up.withLine fun l => { l with rx := .receiving, rxBuf := grantChars.take 5 })
        (fun t => decide (t.line.rx = .discard ∧ t.line.errors = 1)) = true
      ∧ gives (.characterTaken 0xA5#8) (up.withLine fun l => { l with rx := .receiving, rxBuf := [], idle := 0 })
        (fun t => decide (t.line.rx = .receiving ∧ t.line.rxBuf = [0xA5#8] ∧ t.line.errors = 0)) = true := by
  decide +kernel

theorem witness_ReceiverMoves_first :
    ∃ s : State, s.Running ∧ s.line.tx ≠ .sending ∧ s.loader.listenOnly = false ∧ s.line.rx = .hunt ∧ 12 ≤ s.line.idle :=
  ⟨up.withLine fun l => { l with idle := 12 }, rfl, by decide, rfl, rfl, by decide⟩

theorem witness_ReceiverMoves_early :
    ∃ s : State, s.Running ∧ s.line.tx ≠ .sending ∧ s.loader.listenOnly = false ∧ s.line.rx = .hunt ∧ s.line.idle < 12 :=
  ⟨up.withLine fun l => { l with idle := 11 }, rfl, by decide, rfl, rfl, by decide⟩

theorem witness_ReceiverMoves_discard :
    ∃ s : State, s.Running ∧ s.line.tx ≠ .sending ∧ s.loader.listenOnly = false ∧ s.line.rx = .discard :=
  ⟨up.withLine fun l => { l with rx := .discard }, rfl, by decide, rfl, rfl⟩

theorem witness_ReceiverMoves_receiving :
    ∃ (s : State) (c : Byte), s.Running ∧ s.line.tx ≠ .sending ∧ s.loader.listenOnly = false ∧ s.line.rx = .receiving
      ∧ badStart (s.line.rxBuf ++ [c]) = false
      ∧ frameEnd (s.line.rxBuf ++ [c]) ≠ some (s.line.rxBuf ++ [c]).length :=
  ⟨up.withLine (fun l => { l with rx := .receiving, rxBuf := [0xA5#8] }), 0x3C#8, rfl, by decide, rfl, rfl, rfl, by decide⟩

/-- `s` with all but the last character of a frame received. -/
def ending (s : State) (chars : List Byte) : State := { s with line := { s.line with rx := .receiving, rxBuf := chars.dropLast } }

/-- The state and the last character with which a complete frame ends. -/
def atEndOf (chars : List Byte) : State := ending up chars

/-- The conditions every clause of `FrameTests` shares, for a frame of these characters. -/
def endsFrameAt (s : State) (chars : List Byte) : Bool :=
  decide (s.loader.phase = .running ∧ s.line.tx ≠ .sending ∧ s.loader.listenOnly = false
    ∧ badStart (chars.dropLast ++ [chars.getLastD 0]) = false
    ∧ frameEnd (chars.dropLast ++ [chars.getLastD 0]) = some (chars.dropLast ++ [chars.getLastD 0]).length
    ∧ chars.dropLast ++ [chars.getLastD 0] = chars)

def endsFrame (chars : List Byte) : Bool := endsFrameAt up chars

theorem completes {s : State} {chars : List Byte} (h : endsFrameAt s chars = true) :
    (ending s chars).CompletesFrame (chars.getLastD 0) (parseFrame chars) := by
  obtain ⟨h1, h2, h3, h4, h5, h6⟩ := of_decide_eq_true h
  exact ⟨h1, h2, h3, rfl, h4, h5, congrArg parseFrame h6⟩

/-- The frame of these characters passes every test at `s`, with the content `m`. -/
def accepted (s : State) (chars : List Byte) (m : Message) : Bool :=
  let f := parseFrame chars
  decide (f.checkGood = true ∧ (1 ≤ f.kind ∧ f.kind ≤ 10) ∧ decodeMessage f.kind f.payload = some m ∧ f.source ≠ s.loader.straps
    ∧ (1 ≤ f.source ∧ f.source ≤ 30) ∧ s.peers.entries.length = 30
    ∧ ((f.dest = s.loader.straps ∧ f.dest ≠ 31) ∨ (f.dest = 31 ∧ (f.kind ≤ 5 ∨ f.kind = 8))))

theorem accepts {s : State} {chars : List Byte} {m : Message} (h : accepted s chars m = true) :
    (ending s chars).Accepts (parseFrame chars) m := by
  obtain ⟨h1, h2, h3, h4, h5, h6, h7⟩ := of_decide_eq_true h
  exact ⟨h1, h2, h3, h4, h5, h6, h7⟩

/-- One of the frame's bytes is wrong; its payload is no tag. -/
theorem witness_FrameTests_bad :
    endsFrame (grantChars.take 6 ++ [4#8] ++ grantChars.drop 7) = true
      ∧ (parseFrame (grantChars.take 6 ++ [4#8] ++ grantChars.drop 7)).checkGood = false
      ∧ endsFrame (frameChars 9 5 6 [16#8]) = true ∧ decodeMessage 6 [16#8] = none := by
  decide +kernel

/-- An unknown kind; a source above 30; another station's frame; a GRANT to ALL. -/
theorem witness_FrameTests_unmoved :
    endsFrame (frameChars 9 5 11 [3#8]) = true ∧ (parseFrame (frameChars 9 5 11 [3#8])).checkGood = true
      ∧ endsFrame (frameChars 31 5 6 [3#8]) = true ∧ endsFrame (frameChars 9 6 6 [3#8]) = true
      ∧ endsFrame (frameChars 9 31 6 [3#8]) = true ∧ decodeMessage 6 [3#8] ≠ none := by
  decide +kernel

/-- A frame whose source is the own number. -/
theorem witness_FrameTests_duplicate :
    endsFrame (frameChars 5 31 8 [3#8]) = true ∧ parseFrame (frameChars 5 31 8 [3#8]) = ⟨5, 31, 8, [3#8], true⟩
      ∧ decodeMessage 8 [3#8] ≠ none ∧ up.loader.straps = 5 ∧ up.line.duplicate = false := by
  decide +kernel

/-- A GRANT to the own station from the last entry's, and a STATUS to ALL. -/
theorem witness_FrameTests_heard :
    endsFrame (frameChars 30 5 6 [3#8]) = true ∧ parseFrame (frameChars 30 5 6 [3#8]) = ⟨30, 5, 6, [3#8], true⟩
      ∧ up.peers.entries.length = 30
      ∧ endsFrame (frameChars 9 31 2 (statusPayload ⟨100, 100, 500, 3, .connected, -100, ⟨false, false, false, false, false, false⟩⟩ .alarm))
        = true
      ∧ (parseFrame (frameChars 9 31 2
          (statusPayload ⟨100, 100, 500, 3, .connected, -100, ⟨false, false, false, false, false, false⟩⟩ .alarm))).dest = 31 := by
  decide +kernel

/-- A STATUS of boundary values. -/
def fullStatus : StatusFields := ⟨2000, 0, 1000, 30, .locked, -2000, ⟨true, true, true, true, true, true⟩⟩

/-- A frame of every kind, from the lowest and the highest source, with its content. -/
def acceptedFrames : List (List Byte × Message) :=
  [(frameChars 30 31 1 (presentPayload ⟨65535, 16, 2000⟩), .present .container ⟨65535, 16, 2000⟩),
    (frameChars 1 31 1 [2, 0, 0, 0, 0, 0], .present .gateway ⟨0, 0, 0⟩),
    (frameChars 30 31 2 (statusPayload fullStatus .lockout), .status .container fullStatus .lockout),
    (frameChars 1 31 3 [3, 0x1F, 0xFF, 19, 60], .hazard .alarm ⟨indicationsOfBits 8191, (Cause.ofCode 19).getD .none, 60⟩),
    (frameChars 9 31 4 [0, 0, 0, 100, 0, 200, 1], .dispatch 100 200 .run),
    (frameChars 9 31 5 (askPayload 15 7 .heatStage 30), .ask 15 7 .heatStage 30),
    (frameChars 9 5 6 [15], .grant 15), (frameChars 9 5 7 [0], .defer 0), (frameChars 9 31 8 [15], .release 15),
    (frameChars 9 5 9 [5, 0, 0], .read 5 0 0), (frameChars 9 5 10 [5, 0, 0, 1], .record)]

theorem acceptedFrames_pass : ∀ x ∈ acceptedFrames, endsFrameAt up x.1 = true ∧ accepted up x.1 x.2 = true := by decide +kernel

theorem witness_FrameTests_kinds (x : List Byte × Message) (h : x ∈ acceptedFrames) :
    (ending up x.1).CompletesFrame (x.1.getLastD 0) (parseFrame x.1) ∧ (ending up x.1).Accepts (parseFrame x.1) x.2 :=
  ⟨completes (acceptedFrames_pass x h).1, accepts (acceptedFrames_pass x h).2⟩

/-- The other clauses of `FrameTests`: a DISPATCH from a gateway, the mode repeated; a READ while DUPLICATE, and with 4 replies. -/
theorem witness_FrameTests_clauses :
    let gateway : State := up.withPeers fun p => { p with
      entries := changeAt (fun e => { e with kind := .gateway }) 8 p.entries, dispatch := ⟨.current, some 9, 0, 1, some .run, some 0⟩ }
    let dispatch := frameChars 9 31 4 [0, 0, 0, 100, 0, 200, 1]
    let read := frameChars 9 5 9 [5, 0, 0]
    (endsFrameAt gateway dispatch = true ∧ accepted gateway dispatch (.dispatch 100 200 .run) = true
        ∧ (gateway.peers.entries.getD 8 .reset).kind = .gateway)
      ∧ (∀ l ∈ [{ up.line with duplicate := true }, { up.line with replies := List.replicate 4 ⟨9, [1, 0, 0, 0]⟩ }],
          endsFrameAt { up with line := l } read = true ∧ accepted { up with line := l } read (.read 5 0 0) = true) := by
  decide +kernel

/-- A gateway at station 9, and its DISPATCH of mode STOP. -/
def governed (s : State) : State :=
  { s with peers := { s.peers with entries := changeAt (fun e => { e with kind := .gateway }) 8 s.peers.entries } }
def stopChars : List Byte := frameChars 9 31 4 [0, 0, 0, 100, 0, 200, 3]

/-- R174, R177, R178, R180: the report of STOP in every state, in CONNECTED with the setpoint at 0 and at 1. -/
theorem witness_LeavingTimers_stopReport :
    (∀ x ∈ orderlyTo ++ [(.opened, .opened), (.tripped, .tripped), (.locked, .locked), (.disconnecting, .disconnecting)],
        endsFrameAt (governed (inPhase x.1 up)) stopChars = true
          ∧ accepted (governed (inPhase x.1 up)) stopChars (.dispatch 100 200 .stop) = true
          ∧ gives (.frameComplete (stopChars.getLastD 0)) (ending (governed (inPhase x.1 up)) stopChars)
              (fun t => decide (t.conn.phase = x.2 ∧ t.peers.dispatch.mode = some .stop)) = true)
      ∧ gives (.frameComplete (stopChars.getLastD 0))
          (ending { governed (inPhase .connected up) with limit := { up.limit with setpoint := 1, cDis := 1 } } stopChars)
          (fun t => decide (t.conn.phase = .connected ∧ t.limit.setpoint = 1)) = true := by
  decide +kernel

/-- R177, R180, R183: a frame of the own number in every state. -/
theorem witness_LeavingTimers_duplicate :
    ∀ x ∈ [(ConnPhase.opened, ConnPhase.locked), (.waitPermit, .locked), (.tripped, .locked), (.locked, .locked), (.precharging, .locked),
        (.dcClosed, .locked), (.connected, .disconnecting), (.rideThrough, .disconnecting), (.disconnecting, .disconnecting)],
      endsFrameAt (inPhase x.1 up) (frameChars 5 31 8 [3#8]) = true
        ∧ gives (.frameComplete ((frameChars 5 31 8 [3#8]).getLastD 0)) (ending (inPhase x.1 up) (frameChars 5 31 8 [3#8]))
            (fun t => decide (t.conn.phase = x.2 ∧ t.line.duplicate = true ∧ (t.conn.phase = .locked → t.conn.locks.duplicate = true)))
          = true := by
  decide +kernel

/-- R142, R137, R139, R123: what an entry holds after a DISPATCH, a PRESENT and a READ. -/
theorem witness_FrameTests_taken :
    gives (.frameComplete ((frameChars 9 31 1 [2, 0, 0, 0, 0, 0]).getLastD 0)) (atEndOf (frameChars 9 31 1 [2, 0, 0, 0, 0, 0]))
        (fun t => decide ((t.peers.entries.getD 8 .reset).kind = .gateway ∧ (t.peers.entries.getD 8 .reset).frames = 1)) = true
      ∧ gives (.frameComplete ((frameChars 9 5 9 [5, 0, 0]).getLastD 0)) (atEndOf (frameChars 9 5 9 [5, 0, 0]))
        (fun t => decide (t.line.replies.map (fun r => (r.dest, r.payload.take 3)) = [(9, [5, 0, 0])])) = true := by
  decide +kernel

/-- The RECORDs of the worked example of chapter 10: CONFIG of station 14 at uptime 12, with the adjusted flags of its table, and the READ of
MODULE 17, whose answer is NO_SUCH_RECORD. -/
theorem witness_FrameTests_record :
    let config := frameChars 9 14 9 [9, 0, 0]
    let module17 := frameChars 9 14 9 [2, 17, 0]
    let loader : LoaderState := { LoaderState.reset .running 14 with
      startKind := some .configured, uptime := 12, digest := 0x1234
      sections := ⟨⟨true, true, false, false⟩, ⟨true, false, false, false⟩, ⟨true, false, true, false⟩, ⟨true, false, false, false⟩,
        ⟨false, false, false, true⟩⟩ }
    let s (frame : List Byte) : State := { atEndOf frame with loader := loader }
    gives (.frameComplete (config.getLastD 0)) (s config)
        (fun t => decide (t.line.replies = [⟨9, [9, 0, 0, 0, 14, 0, 0, 0, 1, 1, 1, 0, 1, 2, 1, 0, 0, 4, 0x12, 0x34, 0, 0, 0, 0, 0, 0, 0, 12]⟩]
          ∧ t.loader.answered = 1)) = true
      ∧ gives (.frameComplete (module17.getLastD 0)) (s module17) (fun t => decide (t.line.replies = [⟨9, [2, 17, 0, 1]⟩])) = true
      ∧ RecordReadable 9 0 0 ∧ ¬ RecordReadable 2 17 0 ∧ (s config).recordFields 9 0 0 ≠ none := by
  unfold RecordReadable; decide +kernel

theorem witness_Deferrals :
    ∃ s : State, s.line.tx = .waiting ∧ s.loader.listenOnly = false ∧ s.line.rx = .hunt ∧ s.line.idle = 12 ∧ s.line.deferrals = 7 :=
  ⟨up.withLine fun l => { l with tx := .waiting, inHand := some .routine, routine := [.status], deferrals := 7 }, rfl, rfl, rfl, rfl, rfl⟩

theorem witness_Deferrals_early :
    ∃ s : State, s.line.tx = .waiting ∧ s.loader.listenOnly = false ∧ s.line.rx = .hunt ∧ s.line.idle = 11 :=
  ⟨up.withLine fun l => { l with tx := .waiting, inHand := some .routine, routine := [.status], idle := 11 }, rfl, rfl, rfl, rfl⟩

theorem witness_Deferrals_notHunt : ∃ s : State, s.line.tx = .waiting ∧ s.loader.listenOnly = false ∧ s.line.rx ≠ .hunt :=
  ⟨up.withLine fun l => { l with tx := .waiting, inHand := some .routine, routine := [.status], rx := .discard }, rfl, rfl, by decide⟩

theorem witness_Deferrals_kept :
    ∃ (c : Instr) (s t : State), c ≠ .deferral ∧ c ≠ .frameSent ∧ c.resets = false ∧ exec c s = .next t :=
  ⟨.collision, sendingStatus, _, by decide, by decide, rfl, rfl⟩

/-- Station 5 at the gap of a ROUTINE frame, one bit-time below it, and promoted with an URGENT frame, at 16. -/
theorem witness_Transmitter_start :
    ∃ (s : State) (k : FrameClass), s.Running ∧ s.line.rx = .hunt ∧ s.line.tx = .waiting ∧ s.line.inHand = some k ∧ k = .routine
      ∧ s.line.promoted = false ∧ s.line.idle = 208 + 2 * s.loader.straps :=
  ⟨waitingStatus 218, .routine, rfl, rfl, rfl, rfl, rfl, rfl, rfl⟩

theorem witness_Transmitter_early :
    ∃ (s : State) (k : FrameClass), s.Running ∧ s.line.rx = .hunt ∧ s.line.tx = .waiting ∧ s.line.inHand = some k ∧ k = .routine
      ∧ s.line.promoted = false ∧ s.line.idle < 208 + 2 * s.loader.straps :=
  ⟨waitingStatus 217, .routine, rfl, rfl, rfl, rfl, rfl, rfl, by decide⟩

theorem witness_Transmitter_promoted :
    ∃ (s : State) (k : FrameClass), s.Running ∧ s.line.rx = .hunt ∧ s.line.tx = .waiting ∧ s.line.inHand = some k ∧ k = .urgent
      ∧ s.line.promoted = true ∧ s.line.bars.urgent = false ∧ s.line.idle = 16 ∧ s.line.urgent = some ⟨.clear, [], .none, 30⟩ :=
  ⟨up.withLine fun l => { l with
    tx := .waiting, inHand := some .urgent, promoted := true, idle := 16, urgent := some ⟨.clear, [], .none, 30⟩ }, _, rfl, rfl, rfl, rfl,
    rfl, rfl, rfl, rfl, rfl⟩

/-- The frames `Transmitter` names: each of the PERMIT store's, a reply, and the PRESENT, in hand. -/
theorem witness_Transmitter_frames (f : PermitFrame) :
    (∃ s : State, s.Running ∧ s.line.rx = .hunt ∧ s.line.tx = .waiting ∧ s.line.inHand = some .permit ∧ s.line.permits = [f])
      ∧ (∃ s : State, s.Running ∧ s.line.rx = .hunt ∧ s.line.tx = .waiting ∧ s.line.inHand = some .reply
          ∧ s.line.replies = [⟨9, [1, 0, 0, 0]⟩])
      ∧ ∃ s : State, s.Running ∧ s.line.rx = .hunt ∧ s.line.tx = .waiting ∧ s.line.inHand = some .routine
          ∧ s.line.routine.head? = some .present ∧ s.loader.startKind = some .configured :=
  ⟨⟨up.withLine fun l => { l with tx := .waiting, inHand := some .permit, permits := [f] }, rfl, rfl, rfl, rfl, rfl⟩,
    ⟨up.withLine fun l => { l with tx := .waiting, inHand := some .reply, replies := [⟨9, [1, 0, 0, 0]⟩] }, rfl, rfl, rfl, rfl, rfl⟩,
    up.withLine fun l => { l with tx := .waiting, inHand := some .routine, routine := [.present] }, rfl, rfl, rfl, rfl, rfl, rfl⟩

theorem witness_Transmitter_sending :
    ∃ (s : State) (k : FrameClass), s.line.tx = .sending ∧ s.line.inHand = some k ∧ (k ≠ .urgent ∨ s.line.urgentNext = none) :=
  ⟨sendingStatus, .routine, rfl, rfl, by decide⟩

/-- A HAZARD frame at CLEAR. -/
def clearFrame : HazardFrame := ⟨.clear, [], .none, 30⟩

theorem witness_Transmitter_urgent :
    ∃ (s : State) (f : HazardFrame), s.line.tx = .sending ∧ s.line.inHand = some .urgent ∧ s.line.urgentNext = some f :=
  ⟨up.withLine fun l => { l with
    tx := .sending, inHand := some .urgent, urgent := some clearFrame, urgentNext := some { clearFrame with level := .watch } },
    _, rfl, rfl, rfl⟩

theorem witness_Transmitter_reply : ∃ s : State, s.line.tx = .sending ∧ s.line.inHand = some .reply :=
  ⟨up.withLine fun l => { l with tx := .sending, inHand := some .reply, replies := [⟨9, [1, 0, 0, 0]⟩] }, rfl, rfl⟩

theorem witness_Transmitter_present :
    ∃ (s : State) (r : RoutineRequest) (rest : List RoutineRequest), s.line.tx = .sending ∧ s.line.inHand = some .routine
      ∧ s.line.routine = r :: rest ∧ r = .present ∧ s.peers.service = .announcing :=
  ⟨{ sendingStatus with
    line := { sendingStatus.line with routine := [.present] }, peers := { up.peers with service := .announcing } }, _, _, rfl, rfl, rfl,
    rfl, rfl⟩

theorem witness_Transmitter_status :
    ∃ (s : State) (r : RoutineRequest) (rest : List RoutineRequest), s.line.tx = .sending ∧ s.line.inHand = some .routine
      ∧ s.line.routine = r :: rest ∧ r = .status ∧ s.line.statusAgain = true :=
  ⟨{ sendingStatus with line := { sendingStatus.line with statusAgain := true } }, _, _, rfl, rfl, rfl, rfl, rfl⟩

/-- R153: the current ASK is sent, in ASKING with a need in the queue. -/
theorem witness_Transmitter_ask :
    ∃ (s : State) (rest : List PermitFrame), s.line.tx = .sending ∧ s.line.inHand = some .permit
      ∧ s.line.permits = .ask s.permit.tag 0 .precharge 0 :: rest ∧ s.permit.phase = .asking ∧ s.permit.ask = none
      ∧ s.permit.owed = .none ∧ s.permit.deferred = [] :=
  ⟨{ asking [9] [] with
      line := { up.line with tx := .sending, inHand := some .permit, permits := [.ask 0 0 .precharge 0] }
      permit := { (asking [9] []).permit with ask := none } }, _, rfl, rfl, rfl, rfl, rfl, rfl, rfl⟩

theorem witness_Transmitter_permit :
    ∃ (s : State) (f : PermitFrame) (rest : List PermitFrame), s.line.tx = .sending ∧ s.line.inHand = some .permit
      ∧ s.line.permits = f :: rest ∧ s.permit.queue = [] ∧ s.permit.owed = .none ∧ s.permit.deferred = [] :=
  ⟨up.withLine fun l => { l with tx := .sending, inHand := some .permit, permits := [.grant 9 3, .grant 10 1] }, _, _, rfl, rfl, rfl, rfl,
    rfl, rfl⟩

/-- R159: the report of a frame sent with the own frame owed and 7 GRANTs owed in IDLE, with the store then empty and with 7 frames left:
at a release the STATUS and 5 GRANTs follow, and with one place free the STATUS alone. -/
theorem witness_Transmitter_owed :
    ∀ x ∈ [(0, 6, 2), (7, 8, 7)],
      let s : State := { up with
        line := { up.line with tx := .sending, inHand := some .permit, permits := .grant 9 3 :: List.replicate x.1 (.defer 9 1) }
        permit := { up.permit with owed := .status, deferred := (List.range 7).map fun i => (i + 10, i) } }
      s.permit.queue = [] ∧ s.line.permits.tail.length < 8 ∧ s.line.duplicate = false ∧ s.loader.listenOnly = false
        ∧ gives .frameSent s (fun t => decide (t.line.permits.length = x.2.1 ∧ t.permit.deferred.length = x.2.2 ∧ t.permit.owed = .none
            ∧ t.line.permits[x.1]? = some .status)) = true := by
  decide +kernel

/-- R125: the invariant at a step, with a STATUS in hand on a line at its gap. -/
theorem witness_Transmitter_hand :
    ∃ s t : State, (s.AlarmLocks ∧ s.CapabilityFollows ∧ s.HandFollows ∧ s.line.inHand = some .routine ∧ s.line.tx = .waiting)
      ∧ step s = .next t :=
  ⟨{ waitingStatus 218 with pending := [.transmitStart] }, _,
    ⟨⟨fun h => absurd rfl h, fun h => absurd rfl h, nofun⟩, ⟨fun h => absurd rfl h, by decide, by decide⟩,
      ⟨fun h => absurd rfl h, fun _ _ => by decide, fun _ _ => by decide⟩, rfl, rfl⟩, rfl⟩

/-- R125: a GRANT placed while a STATUS waits becomes the frame in hand, and the last frame sent leaves the transmitter IDLE. -/
theorem test_frame_in_hand :
    let ask := frameChars 9 31 5 (askPayload 15 7 .heatStage 30)
    gives (.frameComplete (ask.getLastD 0)) (ending (waitingStatus 0) ask)
        (fun t => decide (t.line.inHand = some .permit ∧ t.line.permits = [.grant 9 15] ∧ t.line.tx = .waiting)) = true
      ∧ gives .frameSent sendingStatus (fun t => decide (t.line.tx = .idle ∧ t.line.inHand = none)) = true := by
  decide +kernel

theorem witness_ReplyStore : ∃ s t : State, s.line.replies.length ≤ 4 ∧ step s = .next t :=
  ⟨{ receivingGrant with pending := [.frameComplete 0] }, _, by decide, rfl⟩

theorem witness_ReplyStore_full : ∃ w : Work, w.line.replies.length = 4 :=
  ⟨Work.start (up.withLine fun l => { l with replies := List.replicate 4 ⟨9, [1, 0, 0, 0]⟩ }), rfl⟩

theorem witness_FramesReadBack : ∃ payload : List Byte, payload.length ≤ 48
      ∧ payload.length = 48 := ⟨List.replicate 48 0, by decide, by decide⟩

theorem witness_FramesReadBack_status :
    ∃ f : StatusFields, f.dis ≤ 2000 ∧ f.chg ≤ 2000 ∧ f.soc ≤ 1000 ∧ f.aux ≤ 30 ∧ -2000 ≤ f.setpoint ∧ f.setpoint ≤ 2000 :=
  ⟨⟨2000, 0, 1000, 30, .locked, -2000, ⟨true, true, true, true, true, true⟩⟩, by decide, by decide, by decide, by decide, by decide,
    by decide⟩

/-- R119, R120: the boundary values of a STATUS and of a HAZARD frame are read back. -/
theorem test_status_read_back :
    decodeMessage 2 (statusPayload ⟨2000, 0, 1000, 30, .locked, -2000, ⟨true, true, true, true, true, true⟩⟩ .lockout)
      = some (.status .container ⟨2000, 0, 1000, 30, .locked, -2000, ⟨true, true, true, true, true, true⟩⟩ .lockout) := by
  decide +kernel

theorem witness_FramesReadBack_present : ∃ a : Announced, a.digest < 65536 ∧ a.moduleCount ≤ 16 ∧ a.rating ≤ 2000 :=
  ⟨⟨65535, 16, 2000⟩, by decide, by decide, by decide⟩

theorem witness_FramesReadBack_hazard :
    ∃ f : HazardFrame, f.set = Indication.all.filter (fun i => decide (i ∈ f.set)) ∧ f.countdown = 60 :=
  ⟨⟨.alarm, [.gasAL1, .manual, .smokeBFault], .member .manual, 60⟩, by decide, rfl⟩

/-! ### Windows, peers and service -/

theorem witness_LineAndPeerTimers_window :
    ∃ s : State, s.line.window ≠ none ∧ s.loader.listenOnly = false ∧ s.line.degraded = true ∧ 5 ≤ s.line.errors :=
  ⟨up.withLine fun l => { l with degraded := true, errors := 5 }, by decide, rfl, rfl, by decide⟩

theorem witness_LineAndPeerTimers_restored :
    ∃ s : State, s.line.window ≠ none ∧ s.loader.listenOnly = false ∧ s.line.degraded = true ∧ s.line.errors ≤ 4 :=
  ⟨up.withLine fun l => { l with degraded := true, errors := 4 }, by decide, rfl, rfl, by decide⟩

/-- R133: 20 errors in a window set LINE_DEGRADED and 19 do not; 5 keep it and 4 clear it. -/
theorem witness_LineAndPeerTimers_errors :
    ∀ x ∈ [(false, 20, true), (false, 19, false), (true, 5, true), (true, 4, false)],
      gives .errorWindowEnd (up.withLine fun l => { l with degraded := x.1, errors := x.2.1 })
        (fun t => decide (t.line.degraded = x.2.2 ∧ t.line.errors = 0 ∧ t.line.window = some 0)) = true := by
  decide +kernel

/-- R135: in the listen-only start a window is not tested. -/
theorem witness_LineAndPeerTimers_listenOnly :
    gives .errorWindowEnd { (up.withLine fun l => { l with errors := 20 }) with loader := { up.loader with listenOnly := true } }
      (fun t => decide (t.loader.listenOnly = true ∧ t.line.degraded = false ∧ t.line.errors = 0 ∧ t.line.window = some 0)) = true := by
  decide +kernel

theorem witness_LineAndPeerTimers_ageing :
    ∃ (s : State) (e : PeerEntry), s.peers.ageing ≠ none ∧ s.peers.entries[3]? = some e ∧ e.presence = .present ∧ e.age = 29 :=
  ⟨up.withPeers (fun p => { p with entries := changeAt (fun e => { e with presence := .present, age := 29 }) 3 p.entries }),
    { PeerEntry.reset with presence := .present, age := 29 }, by decide, rfl, rfl, rfl⟩

theorem witness_LineAndPeerTimers_stale :
    ∃ s : State, s.peers.dispatch.staleness ≠ none ∧ s.conn.phase = .connected ∧ s.peers.dispatch.mode ≠ some .stop :=
  ⟨{ connected with peers := { up.peers with dispatch := ⟨.current, some 12, 100, 200, some .run, some 10000⟩ } }, by decide, rfl, by decide⟩

theorem witness_LineAndPeerTimers_stale_opens :
    ∃ s : State, s.peers.dispatch.staleness ≠ none ∧ s.Configured ∧ s.conn.phase = .precharging :=
  ⟨{ inPhase .precharging up with peers := { up.peers with dispatch := ⟨.current, some 12, 100, 200, some .run, some 10000⟩ } }, by decide,
    ⟨rfl, rfl⟩, rfl⟩

theorem witness_LineAndPeerTimers_listening :
    ∃ s : State, s.peers.listening ≠ none ∧ s.line.duplicate = false :=
  ⟨up.withPeers fun p => { p with listening := some 1000 }, by decide, rfl⟩

theorem witness_LineAndPeerTimers_learning :
    ∃ s : State, s.peers.learning ≠ none :=
  ⟨up.withPeers fun p => { p with learning := some 3000 }, by decide⟩

theorem witness_LineAndPeerTimers_status :
    ∃ s : State, s.peers.status ≠ none ∧ s.line.duplicate = false ∧ s.line.tx ≠ .sending :=
  ⟨up.withPeers fun p => { p with status := some 1000 }, by decide, rfl, by decide⟩

/-! ### The start permit -/

theorem witness_PermitTimers_second :
    ∃ s : State, s.permit.phase = .asking ∧ s.permit.ask ≠ none
      ∧ ∃ n ∈ s.permit.awaited, (s.peers.entries.getD (n - 1) .reset).presence = .present :=
  ⟨asking [9] [], rfl, by decide, by decide⟩

theorem witness_PermitTimers_silent :
    ∃ s : State, s.permit.phase = .asking ∧ s.permit.ask ≠ none
      ∧ (∀ n ∈ s.permit.awaited, ¬ (s.peers.entries.getD (n - 1) .reset).presence = .present) ∧ s.permit.deferredBy ≠ [] :=
  ⟨asking [10] [9], rfl, by decide, by decide, by decide⟩

theorem witness_PermitTimers_thirty :
    ∃ s : State, s.permit.phase = .asking ∧ s.permit.ask ≠ none
      ∧ ∃ n ∈ s.permit.deferredBy, (s.peers.entries.getD (n - 1) .reset).presence = .present :=
  ⟨asking [] [9], rfl, by decide, by decide⟩

theorem witness_PermitTimers_held :
    ∃ (s : State) (need : Need) (rest : List Need), s.permit.phase = .asking ∧ s.permit.ask ≠ none
      ∧ (∀ n ∈ s.permit.deferredBy, ¬ (s.peers.entries.getD (n - 1) .reset).presence = .present)
      ∧ s.permit.queue = need :: rest ∧ need.purpose = .precharge ∧ s.conn.phase = .waitPermit :=
  ⟨{ asking [] [10] with conn := { up.conn with phase := .waitPermit } }, ⟨.precharge, 0⟩, [], rfl, by decide, by decide, rfl, rfl, rfl⟩

theorem witness_PermitTimers_held_silent :
    ∃ (s : State) (need : Need) (rest : List Need), s.permit.phase = .asking ∧ s.permit.ask ≠ none
      ∧ (∀ n ∈ s.permit.awaited, ¬ (s.peers.entries.getD (n - 1) .reset).presence = .present) ∧ s.permit.deferredBy = []
      ∧ s.permit.queue = need :: rest ∧ need.purpose = .precharge ∧ s.conn.phase = .waitPermit :=
  ⟨{ asking [10] [] with conn := { up.conn with phase := .waitPermit } }, ⟨.precharge, 0⟩, [], rfl, by decide, by decide, rfl, rfl, rfl,
    rfl⟩

/-- The store clauses of `PermitTimers`: places free, and none. -/
theorem witness_PermitTimers_store :
    (asking [9] []).permit.free = 8 ∧ (asking [9] []).line.permits = [] ∧ (asking [9] []).line.duplicate = false
      ∧ ∃ s : State, s.permit.phase = .asking ∧ s.permit.ask ≠ none ∧ s.permit.free = 0 ∧ s.line.duplicate = false
          ∧ ∃ n ∈ s.permit.awaited, (s.peers.entries.getD (n - 1) .reset).presence = .present :=
  ⟨rfl, rfl, rfl, { asking [9] [] with permit := { (asking [9] []).permit with free := 0 } }, rfl, by decide, rfl, rfl, by decide⟩

/-- Asking for COOL_1 with a deferring peer that is not PRESENT, and this aux limit. -/
def askingCool (limit : Nat) : State :=
  { (wanting.withThermal fun x => { x with need := .waiting, wanted := some .cool1, minOff := none }) with
    loader := { up.loader with cfg := { Settings.defaults with auxLimit := limit } }
    permit := { up.permit with phase := .asking, ask := some 1000, queue := [⟨.coolStage, 16⟩], deferredBy := [10] } }

/-- The aux check passes at a limit of 18, the stage's own demand, and fails at 17. -/
theorem witness_PermitTimers_thermal :
    (∀ limit, (askingCool limit).RowInForce)
      ∧ (∀ limit ∈ [17, 18], let s := askingCool limit
          s.permit.phase = .asking ∧ s.permit.ask ≠ none
            ∧ (∀ n ∈ s.permit.deferredBy, ¬ (s.peers.entries.getD (n - 1) .reset).presence = .present)
            ∧ s.permit.queue = [⟨.coolStage, 16⟩] ∧ s.thermal.need = .waiting ∧ s.thermal.wanted = some .cool1 ∧ s.thermal.forced = .none
            ∧ s.thermal.compressor = false ∧ s.thermal.compressorFailed = false ∧ s.thermal.feedback = false
            ∧ 1 ≤ s.permit.free ∧ s.permit.free + s.line.permits.length ≤ 8)
      ∧ gives .askThirtySecondCheck (askingCool 18)
          (fun t => decide (t.thermal.stage = .cool1 ∧ t.thermal.need = .starting ∧ t.permit.phase = .holding)) = true
      ∧ gives .askThirtySecondCheck (askingCool 17)
          (fun t => decide (t.thermal.stage = .circulate ∧ t.thermal.need = .retry ∧ t.line.permits = [.status])) = true :=
  ⟨fun _ => let r := wanting_row .waiting (some .cool1) none; ⟨r.duties, r.heater, r.damper, r.exhaust, r.aux, r.compressor⟩,
    by decide +kernel, by decide +kernel, by decide +kernel⟩

theorem witness_PermitTimers_hold :
    ∃ (s : State) (need : Need), s.permit.phase = .holding ∧ s.permit.hold ≠ none ∧ s.permit.served = some need
      ∧ need.purpose = .precharge ∧ s.permit.queue = []
      ∧ s.line.duplicate = false ∧ s.conn.phase = .precharging ∧ s.conn.failures < 2 :=
  ⟨holding, ⟨.precharge, 0⟩, rfl, by decide, rfl, rfl, rfl, rfl, rfl, by decide⟩

theorem witness_PermitTimers_hold_connected :
    ∃ (s : State) (need : Need), s.permit.phase = .holding ∧ s.permit.hold ≠ none ∧ s.permit.served = some need
      ∧ need.purpose = .precharge ∧ s.permit.queue = []
      ∧ s.line.duplicate = false ∧ s.conn.phase = .connected :=
  ⟨{ holding with conn := connected.conn }, ⟨.precharge, 0⟩, rfl, by decide, rfl, rfl, rfl, rfl, rfl⟩

theorem witness_PermitTimers_backoff :
    ∃ s : State, s.permit.phase = .backoff ∧ s.permit.backoff ≠ none ∧ s.permit.queue = [] ∧ s.permit.owed = .none
      ∧ s.permit.deferred = [] :=
  ⟨up.withPermit fun p => { p with phase := .backoff, backoff := some 2500 }, rfl, by decide, rfl, rfl, rfl⟩

/-- A back-off about to end with a need that may be asked for, and these peers. -/
def backedOff (entries : List PeerEntry) : State :=
  { (up.withPermit fun p => { p with phase := .backoff, backoff := some 2500, queue := [⟨.precharge, 0⟩], tag := 15 }) with
    peers := { up.peers with service := .inService, entries := entries }, conn := { up.conn with phase := .waitPermit } }

/-- The opening clauses of `PermitTimers`: with station 1 awaited, and with a station at ALARM and a gateway, neither of them awaited. -/
theorem witness_PermitTimers_opens :
    let peer : PeerEntry := { PeerEntry.reset with presence := .silent, kind := .container }
    gives .backoffExpiry (backedOff [peer])
        (fun t => decide (t.permit.phase = .asking ∧ t.permit.tag = 0 ∧ t.permit.awaited = [1]
          ∧ t.line.permits = [.ask 0 0 .precharge 0])) = true
      ∧ gives .backoffExpiry (backedOff [{ peer with level := some .alarm }, { peer with kind := .gateway }])
        (fun t => decide (t.permit.phase = .holding ∧ t.conn.phase = .precharging ∧ t.line.permits = [.ask 0 0 .precharge 0])) = true
      ∧ (backedOff [peer]).permit.backoff ≠ none ∧ (backedOff [peer]).permit.owed = .none ∧ (backedOff [peer]).permit.deferred = []
      ∧ (backedOff [peer]).hazard.level.isAlarm = false := by
  decide +kernel

/-- The clause of `PermitTimers` on a level that reaches ALARM: while asking, and while holding (R164: the hold ends CLEARED). -/
theorem witness_PermitTimers_alarm :
    let hot (s : State) : State := { s with hazard := { up.hazard with level := .preAlarm, escalation := some 300000 } }
    gives .escalationTimerExpiry (hot (asking [9] [])) (fun t => decide (t.permit.phase = .backoff ∧ t.permit.queue = [])) = true
      ∧ gives .escalationTimerExpiry (hot holding)
        (fun t => decide (t.permit.phase = .idle ∧ t.permit.lastHold.map (·.outcome) = some .cleared)) = true
      ∧ (hot (asking [9] [])).permit.served = none ∧ (hot holding).hazard.level.isAlarm = false := by
  decide +kernel

/-- Station `n`, asking, with station `m` awaited. -/
def asksAndAwaits (n m : Nat) : Work :=
  Work.start { asking [m] [] with loader := { up.loader with straps := n } }

theorem witness_MutualAsksOneGrant :
    ∃ a b : Work, a.own ≠ b.own ∧ a.permit.phase = .asking ∧ b.permit.phase = .asking ∧ a.hazard.level.isAlarm = false
      ∧ b.hazard.level.isAlarm = false ∧ b.own ∈ a.permit.awaited ∧ a.own ∈ b.permit.awaited :=
  ⟨asksAndAwaits 5 9, asksAndAwaits 9 5, by decide, rfl, rfl, rfl, rfl, by decide, by decide⟩

theorem witness_MutualAsksOneGrant_holding : ∃ w : Work, w.hazard.level.isAlarm = false ∧ w.permit.phase = .holding :=
  ⟨Work.start holding, rfl, rfl⟩

theorem witness_MutualAsksOneGrant_others :
    (∃ w : Work, w.hazard.level.isAlarm = true) ∧ (∃ w : Work, w.permit.phase = .backoff)
      ∧ ∃ w : Work, w.hazard.level.isAlarm = false ∧ w.permit.phase = .asking ∧ 8 ∉ w.permit.awaited ∧ 9 ∈ w.permit.awaited :=
  ⟨⟨Work.start alarmed, rfl⟩, ⟨Work.start (backedOff []), rfl⟩, asksAndAwaits 5 9, rfl, rfl, by decide, by decide⟩

/-- The frames of the permit at a station that asks, at one that is idle, and at one without a free place. -/
theorem witness_MutualAsksOneGrant_frames :
    ∀ s ∈ [asking [9] [], asking [9, 10] [], asking [] [9], up, up.withPermit fun p => { p with free := 0 }, holding],
      ∀ x ∈ [(frameChars 9 31 5 (askPayload 15 7 .heatStage 30), Message.ask 15 7 .heatStage 30),
          (frameChars 9 5 6 [0], .grant 0), (frameChars 9 5 6 [1], .grant 1), (frameChars 9 5 7 [0], .defer 0),
          (frameChars 9 5 7 [1], .defer 1), (frameChars 9 31 8 [15], .release 15)],
        endsFrameAt s x.1 = true ∧ accepted s x.1 x.2 = true ∧ s.line.duplicate = false := by
  decide +kernel

/-- R154, R159, R160: the last GRANT awaited gives the permit; an ASK at a holding station is deferred, and dropped without a place. -/
theorem witness_MutualAsksOneGrant_answers :
    let grant := frameChars 9 5 6 [0]
    let ask := frameChars 9 31 5 (askPayload 15 7 .heatStage 30)
    gives (.frameComplete (grant.getLastD 0)) (ending { asking [9] [] with conn := { up.conn with phase := .waitPermit } } grant)
        (fun t => decide (t.permit.phase = .holding ∧ t.conn.phase = .precharging)) = true
      ∧ gives (.frameComplete (ask.getLastD 0)) (ending holding ask)
        (fun t => decide (t.line.permits = [.defer 9 15] ∧ t.permit.deferred = [(9, 15)] ∧ t.permit.free = 7)) = true
      ∧ gives (.frameComplete (ask.getLastD 0)) (ending { holding with permit := { holding.permit with free := 0 } } ask)
        (fun t => decide (t.line.permits = [] ∧ t.permit.dropped = 1)) = true := by
  decide +kernel

end Sys2Proof.Tests
end

section
/-! The check index (R6) and the confirmed cell (R8): what the evaluation of one module does to its check index and its check state. -/

set_option Elab.async false

namespace Sys2Proof.Machine

/-! ## The parts of the evaluation (R4, R15, R6) -/

/-- R15: the temperature test moves no check index. -/
@[simp] theorem testTemperature_k (m : ModuleRecord) (round : Nat) : (m.testTemperature round).k = m.k := by
  unfold ModuleRecord.testTemperature ModuleRecord.hold
  split <;> rfl

/-- R15: the temperature test takes no module to LOST, and none out of it. -/
@[simp] theorem testTemperature_lost_iff (m : ModuleRecord) (round : Nat) :
    (m.testTemperature round).check = .lost ↔ m.check = .lost := by
  unfold ModuleRecord.testTemperature
  split
  case isTrue h => simp [ModuleRecord.hold, h.1]
  case isFalse => rfl

@[simp] theorem derive_k (m : ModuleRecord) : m.derive.k = m.k := rfl

@[simp] theorem derive_check (m : ModuleRecord) : m.derive.check = m.check := rfl

@[simp] theorem readmitted_k (m : ModuleRecord) : m.readmitted.k = 1 := rfl

@[simp] theorem readmitted_check (m : ModuleRecord) : m.readmitted.check = .normal := rfl

theorem advance_of_lost {m : ModuleRecord} (h : m.check = .lost) : m.advance = m := if_pos h

theorem advance_k {m : ModuleRecord} (h : m.check ≠ .lost) : m.advance.k = nextIndex m.k := by
  simp [ModuleRecord.advance, h]

@[simp] theorem advance_check (m : ModuleRecord) : m.advance.check = m.check := by
  unfold ModuleRecord.advance
  split <;> rfl

/-- The evaluation of an accepted report up to the derived value: the temperature test, and in a quiet round the channel checking.
`evaluate_accepted` ties it to the model. -/
def ModuleRecord.assess (m : ModuleRecord) (quiet : Bool) (round tolSum tolChk : Nat) : ModuleRecord :=
  (if quiet && (m.testTemperature round).check.checked then (m.testTemperature round).channelCheck round tolSum tolChk
    else m.testTemperature round).derive

@[simp] theorem assess_k (m : ModuleRecord) (quiet : Bool) (round tolSum tolChk : Nat) :
    (m.assess quiet round tolSum tolChk).k = m.k := by
  unfold ModuleRecord.assess
  split <;> simp [channelCheck_k]

/-- R14, R19: no test of an accepted report takes a module to LOST, and none out of it. -/
@[simp] theorem assess_lost_iff (m : ModuleRecord) (quiet : Bool) (round tolSum tolChk : Nat) :
    (m.assess quiet round tolSum tolChk).check = .lost ↔ m.check = .lost := by
  unfold ModuleRecord.assess
  split
  case isTrue h =>
    have checked := (Bool.and_eq_true_iff.1 h).2
    have before : m.check ≠ .lost := fun e => by simp [(testTemperature_lost_iff m round).2 e, CheckState.checked] at checked
    exact iff_of_false (channelCheck_ne_lost checked round tolSum tolChk) before
  case isFalse => simp

/-! ## The evaluation by how the window ended -/

theorem evaluate_of_not_accepted {win : Window} (h : win.wasAccepted = false) (m : ModuleRecord) (quiet : Bool)
    (round tolSum tolChk : Nat) : m.evaluate win quiet round tolSum tolChk = m.derive := by
  cases win with
  | accepted => cases h
  | notSent | opened | missed => rfl

theorem evaluate_accepted (m : ModuleRecord) (b quiet : Bool) (round tolSum tolChk : Nat) :
    m.evaluate (.accepted b) quiet round tolSum tolChk =
      if b && decide ((m.assess quiet round tolSum tolChk).check = .lost) then (m.assess quiet round tolSum tolChk).readmitted
      else if quiet then (m.assess quiet round tolSum tolChk).advance else m.assess quiet round tolSum tolChk := rfl

/-- R6: the check index of a module that is not LOST follows the accepted reports of the quiet rounds. -/
theorem evaluate_accepted_k {m : ModuleRecord} (h : m.check ≠ .lost) (b quiet : Bool) (round tolSum tolChk : Nat) :
    (m.evaluate (.accepted b) quiet round tolSum tolChk).k = if quiet = true then nextIndex m.k else m.k := by
  cases quiet <;> simp [evaluate_accepted, h, advance_k]

/-- R6, R19: a LOST module keeps its check index unless it is re-admitted, and then starts at 1. -/
theorem evaluate_accepted_k_of_lost {m : ModuleRecord} (h : m.check = .lost) (b quiet : Bool) (round tolSum tolChk : Nat) :
    (m.evaluate (.accepted b) quiet round tolSum tolChk).k = if b = true then 1 else m.k := by
  cases b <;> simp [evaluate_accepted, h, advance_of_lost]

/-- R18: an accepted report takes no module to LOST. -/
theorem evaluate_accepted_ne_lost {m : ModuleRecord} (h : m.check ≠ .lost) (b quiet : Bool) (round tolSum tolChk : Nat) :
    (m.evaluate (.accepted b) quiet round tolSum tolChk).check ≠ .lost := by
  cases quiet <;> simp [evaluate_accepted, h]

/-- Settles O21, by how the window ended and whether the module is LOST. -/
theorem checkIndexRotates : Obligations.CheckIndexRotates := by
  refine ⟨fun m win quiet round tolSum tolChk => ?_, fun _ _ _ => rfl⟩
  cases win with
  | accepted b =>
    refine ⟨?_, fun _ h => evaluate_accepted_ne_lost h b quiet round tolSum tolChk⟩
    by_cases lost : m.check = .lost
    · simp [evaluate_accepted_k_of_lost lost, lost]
    · simp [evaluate_accepted_k lost, lost, Window.wasAccepted, nextIndex]
  | notSent | opened | missed =>
    refine ⟨?_, fun accepted => by cases accepted⟩
    rw [evaluate_of_not_accepted rfl]
    simp [Window.wasAccepted]

/-! ## Sum and check agree (R8) -/

theorem channelCheck_of_agree {m : ModuleRecord} {round tolSum tolChk : Nat} (degraded : m.check ≠ .degraded)
    (substitutes : m.substitutes = false) (sum : m.sumDifference.natAbs ≤ tolSum) (check : m.checkDifference.natAbs ≤ tolChk) :
    m.channelCheck round tolSum tolChk = m.confirm.endSearch := by
  simp [ModuleRecord.channelCheck, degraded, substitutes, sum, check]

/-- Out of NORMAL or SEARCH, the end of a search leaves the module NORMAL. -/
theorem endSearch_of_normal_or_search {m : ModuleRecord} (h : m.check = .normal ∨ m.check = .search) :
    m.endSearch = { m with check := .normal, search := 0 } := by
  unfold ModuleRecord.endSearch
  obtain normal | search := h
  · simp [normal]
  · simp [search]

/-- Settles O22: both tests agree, so cell k is confirmed and a search ends. -/
theorem confirmedCell : Obligations.ConfirmedCell := by
  intro m round tolSum tolChk state substitutes sum check
  have degraded : m.check ≠ .degraded := by
    obtain h | h := state <;> simp [h]
  calc m.channelCheck round tolSum tolChk
      = m.confirm.endSearch := channelCheck_of_agree degraded substitutes sum check
    _ = { m.confirm with check := .normal, search := 0 } := endSearch_of_normal_or_search (m := m.confirm) state
    _ = _ := rfl

end Sys2Proof.Machine
end

section
/-! HEAT_HIGH (R68): what a round's completion does to the indication set and the level, and that no other command puts HEAT_HIGH there. -/

set_option Elab.async false

namespace Sys2Proof.Machine

/-! ## The set that a summary leaves (R68) -/

/-- R68: the indication set after a summary; `hazardSummary_eq` ties it to the model. -/
def setAfterSummary (x : Summary) (set : List Indication) : List Indication :=
  match x.tMax with
  | some t => setMember .heatHigh (heatHighAfter (decide (.heatHigh ∈ set)) t.value) set
  | none => set

theorem setAfterSummary_of_some {x : Summary} {t : TempAt} (h : x.tMax = some t) (set : List Indication) :
    setAfterSummary x set = setMember .heatHigh (heatHighAfter (decide (.heatHigh ∈ set)) t.value) set := by
  simp [setAfterSummary, h]

theorem setAfterSummary_of_none {x : Summary} (h : x.tMax = none) (set : List Indication) : setAfterSummary x set = set := by
  simp [setAfterSummary, h]

/-- R68: at 65.0 °C HEAT_HIGH is present, below 60.0 °C it is not, and between them it stays as it was. -/
theorem heatHighAfter_iff {present : Bool} {tMax : Int} :
    heatHighAfter present tMax = true ↔ 650 ≤ tMax ∨ (600 ≤ tMax ∧ present = true) := by
  unfold heatHighAfter
  split
  case isTrue high => simp [high]
  case isFalse high =>
    split
    case isTrue low => simp [high, Int.not_le.2 low]
    case isFalse low => simp [high, Int.not_lt.1 low]

theorem heatHigh_mem_setAfterSummary {x : Summary} {t : TempAt} (h : x.tMax = some t) {set : List Indication} :
    .heatHigh ∈ setAfterSummary x set ↔ 650 ≤ t.value ∨ (600 ≤ t.value ∧ .heatHigh ∈ set) := by
  rw [setAfterSummary_of_some h, mem_setMember, if_pos rfl, heatHighAfter_iff, decide_eq_true_iff]

theorem mem_setAfterSummary_of_ne {i : Indication} (ne : i ≠ .heatHigh) (x : Summary) {set : List Indication} :
    i ∈ setAfterSummary x set ↔ i ∈ set := by
  cases h : x.tMax with
  | none => rw [setAfterSummary_of_none h]
  | some t => rw [setAfterSummary_of_some h, mem_setMember, if_neg ne]

/-- R68: a summary with which HEAT_HIGH enters the set has a T_max of 65.0 °C or more. -/
theorem tMax_of_heatHigh_enters {x : Summary} {set : List Indication} (out : .heatHigh ∉ set)
    (enters : .heatHigh ∈ setAfterSummary x set) : ∃ t, x.tMax = some t ∧ 650 ≤ t.value := by
  cases h : x.tMax with
  | none => exact absurd (setAfterSummary_of_none h set ▸ enters) out
  | some t =>
    obtain high | ⟨-, present⟩ := (heatHigh_mem_setAfterSummary h).1 enters
    · exact ⟨t, rfl, high⟩
    · exact absurd present out

/-! ## The publication of a summary (R17, R68, R72) -/

/-- The rising transitions give the level that the statements name. -/
theorem raisedLevel_eq_levelAfter (h : HazardState) (set : List Indication) : raisedLevel h set = h.levelAfter set := by
  simp [raisedLevel, HazardState.levelAfter, and_assoc]

/-- What reading a summary does to the indication set and to the level. -/
structure ReadsSummary (x : Summary) (h h' : HazardState) : Prop where
  set : h'.set = setAfterSummary x h.set
  level : h'.level = if h'.set = h.set then h.level else h.levelAfter h'.set

/-- R68: the hazard unit reads a summary as one change of the set. -/
theorem hazardSummary_eq (x : Summary) (w : Work) : hazardSummary x w = changeSet (setAfterSummary x w.hazard.set) w := by
  cases h : x.tMax with
  | none => simp [hazardSummary, setAfterSummary, h, changeSet]
  | some t => simp [hazardSummary, setAfterSummary, h, changeMember]

theorem hazardSummary_reads (x : Summary) (w : Work) : ReadsSummary x w.hazard (hazardSummary x w).hazard := by
  rw [hazardSummary_eq]
  constructor
  · exact changeSet_set _ w
  · rw [changeSet_level, changeSet_set, raisedLevel_eq_levelAfter]

/-- R17: of the units that read a summary the hazard unit alone changes its own state. -/
theorem readSummary_reads (x : Summary) (w : Work) : ReadsSummary x w.hazard (readSummary x w).hazard := by
  have before : (thermalSummary (balanceSummary (chargeSummary x w))).hazard = w.hazard :=
    ((chargeSummary_same x w).comp ((balanceSummary_same _).comp (thermalSummary_same _) (K := .balance :: thermalBlocks))
      (K := .balance :: .charge :: .free :: thermalBlocks)) .hazard (by decide)
  have after : (readSummary x w).hazard = (hazardSummary x (thermalSummary (balanceSummary (chargeSummary x w)))).hazard :=
    ((limitSummary_same _).comp (connSummary_same _) (K := connBlocks)) .hazard (by decide)
  rw [after, ← before]
  exact hazardSummary_reads x _

theorem readSummary_scan (x : Summary) (w : Work) : (readSummary x w).scan = w.scan :=
  ((chargeSummary_same x w).comp ((balanceSummary_same _).comp ((thermalSummary_same _).comp ((hazardSummary_same x _).comp
    ((limitSummary_same _).comp (connSummary_same _) (K := connBlocks)) (K := levelBlocks)) (K := levelBlocks))
    (K := levelBlocks)) (K := .charge :: levelBlocks)) .scan (by decide)

theorem publish_of_may {w : Work} (h : mayPublish w.count w.scan = true) :
    publish w = readSummary (buildSummary w.count w.scan)
      (updateScan (fun c => { c with summary := some (buildSummary w.count w.scan) }) w) := if_pos h

theorem publish_of_not {w : Work} (h : mayPublish w.count w.scan = false) : publish w = w := if_neg (by simp [h])

/-- R17: after the first summary every round publishes one. -/
theorem summary_none_of_not_mayPublish {count : Nat} {c : ScanState} (h : mayPublish count c = false) : c.summary = none := by
  simpa using (Bool.or_eq_false_iff.1 h).1

theorem publish_reads {w : Work} (h : mayPublish w.count w.scan = true) :
    ReadsSummary (buildSummary w.count w.scan) w.hazard (publish w).hazard := by
  rw [publish_of_may h]
  exact readSummary_reads _ (updateScan _ w)

/-- What a completed round brings the hazard unit, `c` being the scan unit after it: no summary has ever been published, or one is read. -/
inductive Publication (h h' : HazardState) (c : ScanState) : Prop
  | silent (hazard : h' = h) (summary : c.summary = none)
  | read (x : Summary) (summary : c.summary = some x) (reads : ReadsSummary x h h')

theorem publish_publication (w : Work) : Publication w.hazard (publish w).hazard (publish w).scan := by
  cases may : mayPublish w.count w.scan with
  | false =>
    rw [publish_of_not may]
    exact .silent rfl (summary_none_of_not_mayPublish may)
  | true => exact .read _ (by rw [publish_of_may may, readSummary_scan]; rfl) (publish_reads may)

/-! ## Reports and answer windows (R2 to R4) -/

/-- What a report or the end of an answer window does: the round stays as open as it was and the hazard unit keeps its state, or the round
completes. -/
inductive RoundStep (h : HazardState) (c : ScanState) (h' : HazardState) (c' : ScanState) : Prop
  | stays (hazard : h' = h) (round : c'.round.isSome = c.round.isSome)
  | completes (publication : Publication h h' c')

theorem reviewVisibility_hazard (w : Work) : (reviewVisibility w).hazard = w.hazard := (reviewVisibility_same w) .hazard (by decide)

/-- R18: the report of VISIBILITY_LOST leaves the scan unit as it is. -/
theorem reportVisibility_scan (w : Work) : (reportVisibility w).scan = w.scan :=
  (((reportVisibilityFactor_same w).comp (chargeVisibility_same _) (K := .charge :: connBlocks)).comp (connVisibilityReport_same _)
    (K := .charge :: connBlocks)) .scan (by decide)

theorem reviewVisibility_round (w : Work) : (reviewVisibility w).scan.round = w.scan.round := by
  unfold reviewVisibility
  dsimp only
  split
  · rfl
  · rw [reportVisibility_scan, updateScan_scan]

/-- R4: the publication of a round that completes, with what follows it in the balancing unit. -/
theorem completion_publication (g : ScanState → ScanState) (r : Round) (w : Work) :
    let w' := creditRound r (retestSets (publish (reviewVisibility (updateScan g w))))
    Publication w.hazard w'.hazard w'.scan := by
  have same := (retestSets_same (publish (reviewVisibility (updateScan g w)))).comp (creditRound_same r _) (K := [.balance])
  dsimp only
  rw [same .hazard (by decide), same .scan (by decide), ← updateScan_hazard g w, ← reviewVisibility_hazard (updateScan g w)]
  exact publish_publication _

theorem completeRound_step (w : Work) : RoundStep w.hazard w.scan (completeRound w).hazard (completeRound w).scan := by
  unfold completeRound
  split
  case h_1 r _ =>
    split
    · exact .completes (completion_publication _ r w)
    · exact .stays rfl rfl
  case h_2 => exact .stays rfl rfl

/-- A completion after an operation that keeps the hazard unit and neither opens nor closes the round. -/
theorem completeRound_step_after {w w' : Work} (hazard : w'.hazard = w.hazard)
    (round : w'.scan.round.isSome = w.scan.round.isSome) :
    RoundStep w.hazard w.scan (completeRound w').hazard (completeRound w').scan := by
  cases completeRound_step w' with
  | stays kept still => exact .stays (kept.trans hazard) (still.trans round)
  | completes publication => exact .completes (hazard ▸ publication)

theorem settleWindow_isSome_round (i : Nat) (win : Window) (w : Work) :
    (settleWindow i win w).scan.round.isSome = w.scan.round.isSome := Option.isSome_map

theorem takeReport_step (r : ModuleReport) (w : Work) :
    RoundStep w.hazard w.scan (takeReport r w).hazard (takeReport r w).scan := by
  unfold takeReport
  split
  · exact completeRound_step_after rfl (settleWindow_isSome_round _ _ _)
  · exact .stays rfl rfl

theorem expireWindow_step (n : Nat) (w : Work) :
    RoundStep w.hazard w.scan (expireWindow n w).hazard (expireWindow n w).scan := by
  unfold expireWindow
  dsimp only
  split
  · have emptied := Same.onlyIf (c := losesModule (n - 1) w)
      (updateBalance_same (emptySet .notNormal (n - 1)) (settleWindow (n - 1) .missed (updateModule (n - 1) ModuleRecord.miss w)))
    refine completeRound_step_after ?_ ?_
    · rw [reviewVisibility_hazard, emptied .hazard (by decide)]
      rfl
    · rw [reviewVisibility_round, emptied .scan (by decide)]
      exact settleWindow_isSome_round _ _ _
  · exact .stays rfl rfl

/-- The scan unit after a command: no notice and no lamp reaches it. -/
theorem runCommand_scan {f : Work → Work} {s t : State} (run : runCommand f s = .next t) : t.scan = (f (Work.start s)).scan := by
  obtain rfl : _ = t := Host.Outcome.next.inj run
  exact (finish_same _) .scan (by decide)

theorem exec_roundStep {c : Instr} {s t : State} (round : (∃ r, c = .moduleReport r) ∨ ∃ n, c = .answerWindowExpiry n)
    (run : exec c s = .next t) : RoundStep s.hazard s.scan t.hazard t.scan := by
  obtain ⟨r, rfl⟩ | ⟨n, rfl⟩ := round
  · rw [runCommand_hazard (f := takeReport r) run, runCommand_scan (f := takeReport r) run]
    exact takeReport_step r (Work.start s)
  · rw [runCommand_hazard (f := expireWindow n) run, runCommand_scan (f := expireWindow n) run]
    exact expireWindow_step n (Work.start s)

/-- R68: HEAT_HIGH enters the set in a round only by the summary that the round publishes. -/
theorem RoundStep.tMax_of_heatHigh_enters {h h' : HazardState} {c c' : ScanState} (step : RoundStep h c h' c')
    (out : .heatHigh ∉ h.set) (enters : .heatHigh ∈ h'.set) : ∃ t, c'.summary.bind (·.tMax) = some t ∧ 650 ≤ t.value := by
  cases step with
  | stays kept _ => exact absurd (kept ▸ enters) out
  | completes publication =>
    cases publication with
    | silent kept _ => exact absurd (kept ▸ enters) out
    | read x summary reads =>
      rw [summary]
      exact Machine.tMax_of_heatHigh_enters out (reads.set ▸ enters)

/-- A round that was open, is none now, and has left a summary: the summary has been read. -/
theorem RoundStep.reads {h h' : HazardState} {c c' : ScanState} {x : Summary} (step : RoundStep h c h' c') (before : c.round ≠ none)
    (after : c'.round = none) (summary : c'.summary = some x) : ReadsSummary x h h' := by
  cases step with
  | stays _ round => simp [after, before] at round
  | completes publication =>
    cases publication with
    | silent _ unpublished => simp [unpublished] at summary
    | read y published reads =>
      obtain rfl : y = x := Option.some.inj (published.symm.trans summary)
      exact reads

/-! ## The other events and the set (R65 to R67, R72 to R81, R90, R91) -/

theorem changeMember_mem_of_ne {i j : Indication} (ne : j ≠ i) (v : Bool) (w : Work) :
    j ∈ (changeMember i v w).hazard.set ↔ j ∈ w.hazard.set := by
  unfold changeMember
  rw [changeSet_set, mem_setMember, if_neg ne]

theorem gasMember_ne_heatHigh (l : DetectorLoop) (g : GasLevel) : .heatHigh ≠ gasMember l g := by cases l <;> cases g <;> decide
theorem gasFaultMember_ne_heatHigh (l : DetectorLoop) : .heatHigh ≠ gasFaultMember l := by cases l <;> decide
theorem smokeMember_ne_heatHigh (l : DetectorLoop) : .heatHigh ≠ smokeMember l := by cases l <;> decide
theorem smokeFaultMember_ne_heatHigh (l : DetectorLoop) : .heatHigh ≠ smokeFaultMember l := by cases l <;> decide

theorem takeLevel_heatHigh (l : DetectorLoop) (g : GasLevel) (ppm : Nat) (w : Work) :
    .heatHigh ∈ (takeLevel l g ppm w).hazard.set ↔ .heatHigh ∈ w.hazard.set := by
  unfold takeLevel
  dsimp only
  split
  · rfl
  · rw [changeMember_mem_of_ne (gasMember_ne_heatHigh l g), updateAnalog_hazard]

theorem compareLevel_heatHigh (l : DetectorLoop) (g : GasLevel) (ppm : Nat) (w : Work) :
    .heatHigh ∈ (compareLevel l g ppm w).hazard.set ↔ .heatHigh ∈ w.hazard.set := by
  unfold compareLevel
  split
  · exact takeLevel_heatHigh l g ppm w
  · rfl

theorem compareLoopFault_heatHigh (l : DetectorLoop) (current : Nat) (w : Work) :
    .heatHigh ∈ (compareLoopFault l current w).hazard.set ↔ .heatHigh ∈ w.hazard.set := by
  unfold compareLoopFault
  dsimp only
  split
  · split
    · rw [changeMember_mem_of_ne (gasFaultMember_ne_heatHigh l), updateAnalog_hazard]
    · rw [takeLevel_heatHigh, takeLevel_heatHigh, changeMember_mem_of_ne (gasFaultMember_ne_heatHigh l), updateAnalog_hazard]
  · rfl

@[simp] theorem onLoop_set (h : HazardState) (l : DetectorLoop) (f : SmokeLoop → SmokeLoop) : (h.onLoop l f).set = h.set := by
  cases l <;> rfl

theorem smokeSettles_heatHigh (l : DetectorLoop) (w : Work) :
    .heatHigh ∈ (smokeSettles l w).hazard.set ↔ .heatHigh ∈ w.hazard.set := by
  unfold smokeSettles
  dsimp only
  split
  · rw [changeSet_set, mem_setMember, if_neg (smokeFaultMember_ne_heatHigh l), mem_setMember, if_neg (smokeMember_ne_heatHigh l),
      updateHazard_hazard, onLoop_set]
  · rfl

theorem heatSamples_heatHigh (w : Work) : .heatHigh ∈ (heatSamples w).hazard.set ↔ .heatHigh ∈ w.hazard.set := by
  unfold heatSamples
  split
  · rw [changeMember_mem_of_ne (by decide), updateHazard_hazard]
  · rfl

@[simp] theorem dischargedActive_set (w : Work) : (dischargedActive w).hazard.set = w.hazard.set := by
  unfold dischargedActive
  split
  · exact changeLevel_set _ _ w
  · rfl

theorem firstEvaluation_set (w : Work) : (firstEvaluation w).hazard.set = w.hazard.set := by
  unfold firstEvaluation
  split
  · dsimp only
    split
    · split <;> simp
    · split <;> simp [applyRising_set]
  · rfl

theorem escalates_set (w : Work) : (escalates w).hazard.set = w.hazard.set := by
  unfold escalates
  split <;> simp

theorem fallsBack_set (w : Work) : (fallsBack w).hazard.set = w.hazard.set := by
  unfold fallsBack
  split <;> simp

theorem quietEnds_set (w : Work) : (quietEnds w).hazard.set = w.hazard.set := by
  unfold quietEnds
  split <;> simp

@[simp] theorem enterReleasing_set (w : Work) : (enterReleasing w).hazard.set = w.hazard.set := by
  unfold enterReleasing
  dsimp only
  split <;> simp

theorem countdownEnds_set (w : Work) : (countdownEnds w).hazard.set = w.hazard.set := by
  unfold countdownEnds
  split <;> simp

theorem hazardMaintenanceClear_set (w : Work) : (hazardMaintenanceClear w).hazard.set = w.hazard.set := by
  unfold hazardMaintenanceClear
  split
  · rfl
  · split
    · simp [applyRising_set, requestLockout, HazardState.clearRecords]
    · rfl

theorem maintenanceClears_set (w : Work) : (maintenanceClears w).hazard.set = w.hazard.set := by
  have before : (thermalMaintenanceClear (scanMaintenanceClear w)).hazard = w.hazard :=
    ((scanMaintenanceClear_same w).comp (thermalMaintenanceClear_same _) (K := .thermal :: visibilityBlocks)) .hazard (by decide)
  unfold maintenanceClears
  rw [(connMaintenanceClear_same _) .hazard (by decide), hazardMaintenanceClear_set, before]

theorem keyTurned_set (w : Work) : (keyTurned w).hazard.set = w.hazard.set := by
  unfold keyTurned
  dsimp only
  split
  · exact maintenanceClears_set _
  · rfl

theorem keySettles_set (w : Work) : (keySettles w).hazard.set = w.hazard.set := by
  unfold keySettles
  split
  · exact keyTurned_set w
  · rfl

theorem keyTurns_set (w : Work) : (keyTurns w).hazard.set = w.hazard.set := by
  unfold keyTurns
  split
  · exact keyTurned_set w
  · rfl

theorem callPointSettles_heatHigh (w : Work) : .heatHigh ∈ (callPointSettles w).hazard.set ↔ .heatHigh ∈ w.hazard.set := by
  unfold callPointSettles
  split
  · rw [changeMember_mem_of_ne (by decide), updateHazard_hazard]
  · rfl

theorem doorSettles_set (w : Work) : (doorSettles w).hazard.set = w.hazard.set := by
  unfold doorSettles
  split <;> rfl

theorem holdSettles_set (w : Work) : (holdSettles w).hazard.set = w.hazard.set := by
  unfold holdSettles
  split <;> rfl

theorem dischargedSettles_set (w : Work) : (dischargedSettles w).hazard.set = w.hazard.set := by
  unfold dischargedSettles
  split
  · dsimp only
    split <;> simp
  · rfl

theorem contactSettles_heatHigh (k : Contact) (w : Work) :
    .heatHigh ∈ (contactSettles k w).hazard.set ↔ .heatHigh ∈ w.hazard.set := by
  cases k with
  | callPoint => exact callPointSettles_heatHigh w
  | door => exact iff_of_eq (congrArg _ (doorSettles_set w))
  | hold => exact iff_of_eq (congrArg _ (holdSettles_set w))
  | discharged => exact iff_of_eq (congrArg _ (dischargedSettles_set w))
  | keySwitch => exact iff_of_eq (congrArg _ (keySettles_set w))

theorem startLevel_set (w : Work) : (startLevel w).hazard.set = w.hazard.set := by
  unfold startLevel
  split
  · exact changeLevel_set _ _ w
  · rfl

/-- R190: the hazard unit starts with the set that it had. -/
theorem loaderFinishes_set (acknowledges : Bool) (w : Work) : (loaderFinishes acknowledges w).hazard.set = w.hazard.set := by
  unfold loaderFinishes
  split
  · dsimp only
    rw [startLevel_set, (startTimers_same _) .hazard (by decide)]
    rfl
  · rfl

theorem resetReleased_set (straps : Nat) (w : Work) : (resetReleased straps w).hazard.set = w.hazard.set := by
  unfold resetReleased
  split <;> rfl

/-! ## The commands that publish no summary -/

/-- A command that moves no part of the level's course moves no member of the set. -/
theorem exec_set_of_course {c : Instr} {K : List Block} (effect : effectBlocks c = some K) {s t : State} (run : exec c s = .next t)
    (quiet : Block.course ∉ K ++ finishBlocks := by decide) : t.hazard.set = s.hazard.set := by
  have course : t.hazard.course = s.hazard.course := exec_same effect run .course quiet
  exact congrArg (·.1.2.1) course

/-- R68: no command but those that can complete a round puts HEAT_HIGH into the set. -/
theorem exec_heatHigh_enters {c : Instr} {s t : State} (out : .heatHigh ∉ s.hazard.set) (run : exec c s = .next t)
    (enters : .heatHigh ∈ t.hazard.set) : (∃ r, c = .moduleReport r) ∨ ∃ n, c = .answerWindowExpiry n := by
  have kept (e : t.hazard.set = s.hazard.set) : False := out (e ▸ enters)
  have keptBy {f : Work → Work} (run : runCommand f s = .next t) (e : (f (Work.start s)).hazard.set = s.hazard.set) : False :=
    kept ((congrArg (·.set) (runCommand_hazard run)).trans e)
  have absentAfter {f : Work → Work} (run : runCommand f s = .next t)
      (e : .heatHigh ∈ (f (Work.start s)).hazard.set → .heatHigh ∈ s.hazard.set) : False :=
    out (e (runCommand_hazard run ▸ enters))
  cases c with
  | moduleReport r => exact .inl ⟨r, rfl⟩
  | answerWindowExpiry n => exact .inr ⟨n, rfl⟩
  | powerOn straps => exact (absentAfter (f := powerApplied straps.toNat) run fun m => absurd m List.not_mem_nil).elim
  | resetInput => exact (absentAfter (f := resetAsserted) run fun m => absurd m List.not_mem_nil).elim
  | resetRelease straps => exact (keptBy (f := resetReleased straps.toNat) run (resetReleased_set _ _)).elim
  | loaderFinish a => exact (keptBy run (loaderFinishes_set a _)).elim
  | gasLevelComparator l g ppm => exact (absentAfter run (compareLevel_heatHigh l g ppm _).1).elim
  | loopFaultComparator l i => exact (absentAfter run (compareLoopFault_heatHigh l i _).1).elim
  | smokeLoopPersistenceExpiry l => exact (absentAfter run (smokeSettles_heatHigh l _).1).elim
  | contactInputSettled k => exact (absentAfter run (contactSettles_heatHigh k _).1).elim
  | heatRiseSample => exact (absentAfter run (heatSamples_heatHigh _).1).elim
  | hazardFirstEvaluation => exact (keptBy run (firstEvaluation_set _)).elim
  | escalationTimerExpiry => exact (keptBy run (escalates_set _)).elim
  | fallBackTimerExpiry => exact (keptBy run (fallsBack_set _)).elim
  | quietTimerExpiry => exact (keptBy run (quietEnds_set _)).elim
  | countdownEnd => exact (keptBy run (countdownEnds_set _)).elim
  | maintenanceClear => exact (keptBy run (keyTurns_set _)).elim
  | _ => exact (kept (exec_set_of_course rfl run)).elim

/-! ## HEAT_HIGH (R68) -/

/-- Settles O37: a publication moves HEAT_HIGH as R68 says, and only the two commands that complete a round publish. -/
theorem heatHighFollowsSummaries : Obligations.HeatHighFollowsSummaries := by
  refine ⟨fun w may => ?_, List.not_mem_nil, fun c s t out run enters => ?_, fun c s t x round run before after summary => ?_⟩
  · have reads := publish_reads may
    refine ⟨fun y high => ?_, fun no => ?_⟩
    · rw [reads.set, heatHigh_mem_setAfterSummary high]
    · rw [reads.set, setAfterSummary_of_none no]
  · have round := exec_heatHigh_enters out run enters
    exact (exec_roundStep round run).tMax_of_heatHigh_enters out enters
  · have reads := (exec_roundStep round run).reads before after summary
    refine ⟨fun y high => ?_, fun no => ?_, fun i ne => ?_, reads.level⟩
    · rw [reads.set, heatHigh_mem_setAfterSummary high]
    · rw [reads.set, setAfterSummary_of_none no]
    · rw [reads.set, mem_setAfterSummary_of_ne ne]

end Sys2Proof.Machine
end

section
/-! The REPLY store (R131): what each operation does to it, said once, and that it holds at most 4 frames. `ReplyStable P` lists what can
happen to the store: nothing, it is emptied (R134), its oldest frame has been sent (R128), an answer is placed while it holds fewer than 4. -/

set_option Elab.async false

namespace Sys2Proof.Machine

/-! ## The line interface and the REPLY store -/

/-- R125: taking the frame in hand moves no store. -/
@[simp] theorem LineState.retake_replies (listenOnly : Bool) (l : LineState) : (l.retake listenOnly).replies = l.replies := by
  unfold LineState.retake
  split
  · rfl
  · split
    · rfl
    · split <;> rfl

theorem updateLine_replies (f : LineState → LineState) (w : Work) : (updateLine f w).line.replies = (f w.line).replies :=
  LineState.retake_replies _ _

/-- R127: a collision takes no frame from the store. -/
theorem LineState.putBack_replies (l : LineState) : l.putBack.replies = l.replies := by
  unfold LineState.putBack
  split
  · split <;> rfl
  · rfl
  · rfl
  · rfl

/-- R128: of the frames sent, only a RECORD leaves the store. -/
theorem LineState.removeSent_replies (l : LineState) :
    l.removeSent.replies = if l.inHand = some .reply then l.replies.tail else l.replies := by
  unfold LineState.removeSent
  cases l.inHand with
  | none => rfl
  | some c => cases c <;> rfl

/-! ## The server (R131, R193) -/

/-- A READ is answered while the store holds fewer than 4 frames. -/
theorem answerRead_of_lt {w : Work} (room : w.line.replies.length < 4) (source kind inst part : Nat) :
    answerRead source kind inst part w =
      updateLoader (fun l => { l with answered := satSucc 65535 l.answered })
        (appendReply ⟨source, recordPayload w kind inst part⟩ w) :=
  if_neg (Nat.not_le.2 room)

/-- A READ that finds 4 frames is counted as dropped. -/
theorem answerRead_of_full {w : Work} (full : 4 ≤ w.line.replies.length) (source kind inst part : Nat) :
    answerRead source kind inst part w = updateLoader (fun l => { l with dropped := satSucc 65535 l.dropped }) w :=
  if_pos full

/-- The answer goes behind the frames that the store holds. -/
theorem answerRead_replies {w : Work} (room : w.line.replies.length < 4) (source kind inst part : Nat) :
    (answerRead source kind inst part w).line.replies = w.line.replies ++ [⟨source, recordPayload w kind inst part⟩] := by
  rw [answerRead_of_lt room]
  exact updateLine_replies (fun l => { l with replies := l.replies ++ [_] }) w

/-! ## Properties of the REPLY store that every operation keeps -/

/-- A property that survives everything that can happen to the REPLY store. -/
structure ReplyStable (P : Work → Prop) : Prop where
  kept : ∀ {w w' : Work}, w'.line.replies = w.line.replies → P w → P w'
  emptied : ∀ {w : Work}, w.line.replies = [] → P w
  sent : ∀ {w w' : Work}, w'.line.replies = w.line.replies.tail → P w → P w'
  answered : ∀ {w w' : Work} (f : ReplyFrame), w.line.replies.length < 4 → w'.line.replies = w.line.replies ++ [f] → P w → P w'

namespace ReplyStable

variable {P : Work → Prop} (S : ReplyStable P) {w w' : Work}
include S

/-- An operation that leaves the line interface alone. -/
theorem same {K : List Block} (h : Same K w w') (p : P w) (hk : Block.line ∉ K := by decide) : P w' :=
  S.kept (congrArg LineState.replies (h .line hk)) p

/-- A change of the line interface's own state. -/
theorem changed {f : LineState → LineState} (p : P w) (replies : (f w.line).replies = w.line.replies := by rfl) :
    P (changeLine f w) :=
  S.kept replies p

/-- A change of the other stores. -/
theorem updated {f : LineState → LineState} (p : P w) (replies : (f w.line).replies = w.line.replies := by rfl) :
    P (updateLine f w) :=
  S.kept ((updateLine_replies f w).trans replies) p

/-! ## The line interface -/

theorem hazardPlaced (f : HazardFrame) (p : P w) : P (placeHazard f w) := S.updated p (by split <;> rfl)
theorem routinePlaced (r : RoutineRequest) (p : P w) : P (placeRoutine r w) :=
  prop_ite p (S.updated p (by
    split
    · rfl
    · split <;> rfl))
theorem started (p : P w) : P (startSending w) := prop_ite (S.changed p) p
theorem collided (p : P w) : P (collide w) := prop_ite (S.updated p (LineState.putBack_replies _)) p

/-- R128: the frame sent leaves its store. -/
theorem sendingFinished (p : P w) : P (finishSending w) := by
  have replies : (finishSending w).line.replies = w.line.removeSent.replies := updateLine_replies _ w
  rw [LineState.removeSent_replies] at replies
  split at replies
  · exact S.sent replies p
  · exact S.kept replies p

/-- R134: the store is emptied. -/
theorem storesEmptied : P (emptyStores w) := S.emptied (updateLine_replies _ w)

/-! ## The permit unit -/

theorem permitStored (f : PermitFrame) (p : P w) : P (storeFrame f w) := S.same (updatePermit_same _ _) (S.updated p)
theorem permitOffered (f : PermitFrame) (p : P w) : P (offerPermit f w) := prop_ite (S.permitStored f p) p

theorem owedPlaced (p : P w) : P (placeOwed w) := by
  unfold placeOwed
  split
  · exact prop_ite (S.same (updatePermit_same _ _) (S.permitStored _ p)) p
  · exact p

theorem grantsPlaced (l : List (Nat × Nat)) (p : P w) : P (placeGrants l w) := by
  induction l generalizing w with
  | nil => exact S.same (updatePermit_same _ _) p
  | cons e rest ih => exact prop_ite (ih (S.permitStored _ p)) (S.same (updatePermit_same _ _) p)

theorem owedServed (p : P w) : P (serveOwed w) := prop_ite (S.grantsPlaced _ (S.owedPlaced p)) (S.owedPlaced p)

theorem askOpened (p : P w) : P (openAsk w) := by
  unfold openAsk
  split
  · exact p
  · have q (f : PermitState → PermitState) (x : PermitFrame) : P (offerPermit x (updatePermit f w)) :=
      S.permitOffered x (S.same (updatePermit_same f w) p)
    exact prop_ite (S.same (takeHold_same _) (q _ _)) (q _ _)

theorem askTried (p : P w) : P (tryOpenAsk w) := prop_ite (S.askOpened p) p
theorem askAbandoned (p : P w) : P (abandonAsk w) := S.owedServed (S.same (updatePermit_same _ _) p)

/-- The permit unit changes its own state, serves what it owes and may open an ask. -/
theorem permitMoved (f : PermitState → PermitState) (p : P w) : P (tryOpenAsk (serveOwed (updatePermit f w))) :=
  S.askTried (S.owedServed (S.same (updatePermit_same _ _) p))

theorem holdReleased (o : HoldOutcome) (p : P w) : P (releaseHold o w) := by
  unfold releaseHold
  split
  · exact p
  · exact S.permitMoved _ p

theorem needPlaced (n : Need) (p : P w) : P (placeNeed n w) :=
  prop_ite (S.same (notify_same _ _) p) (prop_ite p (S.askTried (S.same (updatePermit_same _ _) p)))

theorem needCancelled (u : Purpose) (p : P w) : P (cancelNeed u w) :=
  prop_ite (prop_ite (S.askAbandoned (S.same (updatePermit_same _ _) p)) (S.same (updatePermit_same _ _) p)) p

theorem needCompleted (t : Bool) (o : HoldOutcome) (p : P w) : P (completeNeed t o w) := by
  unfold completeNeed
  split
  · exact prop_ite (S.holdReleased o p) p
  · exact p

theorem askAnswered (source tag waits : Nat) (u : Purpose) (increase : Nat) (p : P w) :
    P (answerAsk source tag waits u increase w) :=
  prop_ite (S.permitMoved _ (S.permitStored _ (S.same (updatePermit_same _ _) p)))
    (S.same (updatePermit_same _ _) (S.same (updatePermit_same _ _) p))

theorem releaseTaken (source tag : Nat) (p : P w) : P (takeRelease source tag w) := S.askTried (S.same (updatePermit_same _ _) p)

theorem checkedAtOneSecond (p : P w) : P (oneSecondCheck w) :=
  prop_ite (prop_ite (S.askAbandoned p) (S.same (holdIfAnswered_same _) (S.same (updatePermit_same _ _) p))) p
theorem checkedAtThirtySeconds (p : P w) : P (thirtySecondCheck w) :=
  prop_ite (prop_ite (S.askAbandoned p) (S.same (takeHold_same _) p)) p

theorem holdLimited (p : P w) : P (holdLimit w) := by
  unfold holdLimit
  split
  · exact prop_ite (S.holdReleased _ (S.same (notify_same _ _) p)) p
  · exact p

theorem backoffEnded (p : P w) : P (backoffEnds w) := prop_ite (S.permitMoved _ p) p
theorem permitSent (f : PermitFrame) (p : P w) : P (permitFrameSent f w) := S.permitMoved _ p

theorem permitAlarmed (p : P w) : P (permitAlarm w) := by
  have q := S.same (updatePermit_same (fun u => { u with queue := [] }) w) p
  refine S.same (notifyAll_same _ _) ?_
  split
  · exact S.askAbandoned q
  · exact S.holdReleased _ q
  · exact q
  · exact q

theorem permitReported (old : HazardLevel) (p : P w) : P (permitHazardReport old w) :=
  prop_ite (prop_ite p (S.permitAlarmed p)) (S.askTried p)
theorem permitDuplicated (p : P w) : P (permitDuplicate w) := S.same (updatePermit_same _ _) (prop_ite (S.askAbandoned p) p)

/-! ## The connection unit -/

theorem openLeft (p : P w) : P (leaveOpenTest w) := prop_ite (S.needPlaced _ (S.same (changeState_same _ _ _ _) p)) p
theorem opened (c : Option ExitCause) (p : P w) : P (enterOpen c w) := S.openLeft (S.same (changeState_same _ _ _ _) p)
theorem unlocked (p : P w) : P (unlockIfEmpty w) := prop_ite (S.opened _ p) p
theorem withdrawn (p : P w) : P (withdraw w) := S.opened _ (S.needCancelled _ p)
theorem aborted (c : ExitCause) (p : P w) : P (abort c w) := S.openLeft (S.needCompleted _ _ (S.same (abortState_same _ _) p))
theorem connected (p : P w) : P (enterConnected w) :=
  S.needCompleted _ _ (S.same (updateConn_same _ _) (S.same (changeState_same _ _ _ _) p))
theorem connHolds (p : P w) : P (connHeld w) := prop_ite (S.same (enterPrecharging_same _) p) (S.needCompleted _ _ p)
theorem connClears (p : P w) : P (connCleared w) := prop_ite (S.opened _ p) (prop_ite (S.aborted _ p) p)
theorem connEnds (p : P w) : P (connEnded w) := prop_ite (S.aborted _ p) p

theorem disconnected (p : P w) : P (finishDisconnect w) :=
  have q : P (takeFree 1 (updateConn (fun c => { c with exitPending := none }) w)) :=
    S.same (takeFree_same 1 _) (S.same (updateConn_same _ _) p)
  prop_ite (S.same (enterLocked_same _ _ _) q) (S.opened _ q)

theorem orderly (c : ExitCause) (p : P w) : P (orderlyCause c w) :=
  prop_ite (S.withdrawn p) (prop_ite (S.aborted _ p) (prop_ite (S.same (enterDisconnecting_same _ _) p) p))
theorem immediate (c : ExitCause) (p : P w) : P (immediateOpen c w) :=
  prop_ite (S.aborted _ p) (prop_ite (S.same (enterTripped_same _ _) (S.same (updateConn_same _ _) p)) p)

theorem hazardLocks (p : P w) : P (hazardLock w) :=
  prop_ite (S.aborted _ p) (prop_ite (S.same (updateConn_same _ _) p)
    (S.same (enterLocked_same _ _ _) (S.same (updateConn_same _ _) (prop_ite (S.needCancelled _ p) p))))

theorem connReported (p : P w) : P (connHazardReport w) :=
  have q := S.unlocked (S.same (updateConn_same (fun c => { c with locks := { c.locks with hazard := false } }) w) p)
  prop_ite (prop_ite (S.hazardLocks p) (prop_ite (S.orderly _ q) (S.openLeft q))) p

theorem connDuplicated (p : P w) : P (connDuplicate w) := by
  unfold connDuplicate
  split
  · split
    · exact S.same (enterLocked_same _ _ _) p
    · exact S.same (enterLocked_same _ _ _) p
    · exact S.same (enterLocked_same _ _ _) (S.needCancelled _ p)
    · exact S.same (updateConn_same _ _) p
    · exact S.aborted _ p
    · exact S.aborted _ p
    · exact S.same (enterDisconnecting_same _ _) p
    · exact S.same (enterDisconnecting_same _ _) p
    · exact p
  · exact p

theorem dispatchReported (p : P w) : P (connDispatchReport w) :=
  prop_ite (prop_ite (S.openLeft p) (prop_ite (S.same (stopTest_same _) p)
    (prop_ite (prop_ite (S.same (enterDisconnecting_same _ _) p) p) (prop_ite (S.orderly _ p) p)))) p

theorem visibilityReported (p : P w) : P (connVisibilityReport w) := prop_ite (S.openLeft (S.same (updateConn_same _ _) p)) p
theorem visibilityTimer (p : P w) : P (visibilityExpires w) := prop_ite (S.orderly _ (S.same (updateConn_same _ _) p)) p

theorem fastTrip (d : Direction) (p : P w) : P (connFastTrip d w) :=
  have q := S.same (updateConn_same (fun c => c.setTrip d true) w) p
  prop_ite (prop_ite (S.withdrawn q) (S.immediate _ q)) p
theorem fastTripClear (d : Direction) (p : P w) : P (connFastTripClear d w) :=
  prop_ite (S.openLeft (S.same (updateConn_same _ _) p)) p

theorem connSummarized (p : P w) : P (connSummary w) := by
  unfold connSummary
  split
  · split
    · exact S.openLeft (S.immediate _ p)
    · exact S.openLeft p
  · exact p

theorem connRetested (p : P w) : P (connRetest w) := prop_ite (S.openLeft p) p
theorem connMaintained (p : P w) : P (connMaintenanceClear w) := prop_ite (S.unlocked (S.same (updateConn_same _ _) p)) p

theorem link (p : P w) : P (linkLost w) :=
  have q := S.same (updateConn_same (fun c => { c with linkUp := false, gridTimer := none, gridReached := false }) w) p
  prop_ite (S.withdrawn q) (S.immediate _ q)
theorem miss (p : P w) : P (countMiss w) :=
  prop_ite (prop_ite (S.link (S.same (updateConn_same _ _) p)) (S.same (updateConn_same _ _) p)) p
theorem period (p : P w) : P (connPeriod w) := prop_ite (S.same (stopTest_same _) (S.same (sendSetpoint_same _) (S.miss p))) p
theorem rideThrough (p : P w) : P (enterRideThrough w) :=
  prop_ite (S.opened _ (S.same (changeState_same _ _ _ _) p)) (S.same (changeState_same _ _ _ _) p)

theorem answerUsed (a : ConverterAnswer) (p : P w) : P (useAnswer a w) := by
  unfold useAnswer
  split
  · exact p
  · exact p
  · exact p
  · exact prop_ite p (S.withdrawn p)
  · exact prop_ite (S.aborted _ p) (prop_ite (S.aborted _ p) (prop_ite (S.same (changeState_same _ _ _ _) p) p))
  · exact prop_ite (S.aborted _ p) (prop_ite (S.aborted _ p) (prop_ite (S.connected p) p))
  · exact prop_ite (S.immediate _ p) (prop_ite (S.rideThrough p) p)
  · exact prop_ite (S.immediate _ p) (prop_ite (S.same (changeState_same _ _ _ _) p) p)
  · exact prop_ite (S.immediate _ p) (prop_ite (S.disconnected p) p)

theorem answerTaken (a : ConverterAnswer) (p : P w) : P (connAnswer a w) :=
  prop_ite (S.answerUsed a (S.same (updateConn_same _ _) p)) p
theorem gridDelay (p : P w) : P (gridDelayReached w) := prop_ite (S.openLeft (S.same (updateConn_same _ _) p)) p
theorem prechargeTimer (p : P w) : P (prechargeTimesOut w) := prop_ite (S.aborted _ p) p
theorem readyTimer (p : P w) : P (readyTimesOut w) := prop_ite (S.aborted _ p) p
theorem rideTimer (p : P w) : P (rideTimesOut w) := prop_ite (S.opened _ p) p
theorem disconnectTimer (p : P w) : P (disconnectTimesOut w) := prop_ite (S.disconnected p) p
theorem retryTimer (p : P w) : P (retryDelayEnds w) := prop_ite (S.opened _ (S.same (updateConn_same _ _) p)) p
theorem periodTimer (p : P w) : P (periodExpires w) := prop_ite (S.period (S.same (setpointStep_same _) p)) p

/-! ## The thermal unit -/

theorem needGivenUp (p : P w) : P (giveUpNeed w) := by
  refine S.same (updateDerate_same _) (S.same (updateThermal_same _ _) ?_)
  split
  · exact S.needCancelled _ p
  · exact p

theorem needEnqueued (s : Stage) (p : P w) : P (enqueueNeed s w) :=
  S.needPlaced _ (S.same (updateDerate_same _) (S.same (updateThermal_same _ _) p))
theorem stepHandled (s : Stage) (p : P w) : P (handleStep s w) :=
  prop_ite p (prop_ite (S.same (updateThermal_same _ _) p) (S.needEnqueued s p))

theorem wantHandled (s : Stage) (p : P w) : P (handleWant s w) := by
  unfold handleWant
  split
  · exact S.stepHandled s p
  · exact prop_ite p (S.stepHandled s (S.needGivenUp p))
  · exact prop_ite p (S.stepHandled s (S.needGivenUp p))
  · exact p

theorem thermalSummarized (p : P w) : P (thermalSummary w) := by
  unfold thermalSummary
  split
  · split
    · exact S.wantHandled _ p
    · exact p
  · exact p

theorem thermalRetried (p : P w) : P (retryExpires w) := by
  unfold retryExpires
  split
  · split
    · exact prop_ite (S.needEnqueued _ p) (S.stepHandled _ (S.needGivenUp p))
    · exact S.needGivenUp p
  · exact p

theorem pursuitGivenUp (p : P w) : P (giveUpPursuit w) :=
  prop_ite (S.same (updateDerate_same _) (S.same (updateThermal_same _ _) (S.needCompleted _ _ p))) (S.needGivenUp p)
theorem thermalReported (p : P w) : P (thermalHazardReport w) :=
  prop_ite p (S.same (updateThermal_same _ _) (prop_ite (S.pursuitGivenUp p) p))

theorem thermalHolds (p : P w) : P (thermalHeld w) := by
  unfold thermalHeld
  split
  · have q := S.same (updateThermal_same (fun t => { t with lastAux := some (auxCheck w ‹_›) }) w) p
    refine prop_ite (prop_ite ?_ ?_) ?_
    · exact S.same (updateDerate_same _) (S.same (updateThermal_same _ _) q)
    · exact S.needCompleted _ _ (S.same (updateDerate_same _) (S.same (updateThermal_same _ _) q))
    · exact S.needCompleted _ _ (S.same (updateThermal_same _ _) q)
  · exact S.needCompleted _ _ p

theorem thermalClears (p : P w) : P (thermalCleared w) :=
  prop_ite p (S.same (updateDerate_same _) (S.same (updateThermal_same _ _) p))

theorem startingCompleted (p : P w) : P (completeStarting w) :=
  prop_ite (S.needCompleted _ _ (S.same (updateThermal_same _ _) p)) p

theorem feedback (a : Bool) (p : P w) : P (feedbackChanges a w) := by
  have q := S.same (updateThermal_same (fun t => { t with feedback := a }) w) p
  exact prop_ite (prop_ite (prop_ite (S.startingCompleted (S.same (updateThermal_same _ _) q)) q)
    (prop_ite (S.same (updateThermal_same _ _) q) q)) q

theorem monitor (p : P w) : P (monitorExpires w) :=
  prop_ite (S.startingCompleted (S.same (updateDerate_same _) (S.same (updateThermal_same _ _) p))) p

theorem thermalMaintained (p : P w) : P (thermalMaintenanceClear w) := by
  have q := S.same (updateThermal_same (fun t => { t.onDrives DriveState.clearFault with compressorFailed := false }) w) p
  have r : P (fallBackToCirculate _) := prop_ite (S.same (updateThermal_same _ _) (S.needGivenUp q)) q
  exact S.same (updateDerate_same _) (prop_ite (S.same (updateThermal_same _ _) r) r)

/-! ## The end of a command -/

theorem notice (n : Notice) (p : P w) : P (takeNotice n w) := by
  unfold takeNotice
  split
  · exact prop_ite (S.thermalHolds p) (S.connHolds p)
  · exact prop_ite (S.thermalClears p) (S.connClears p)
  · exact prop_ite p (S.connEnds p)

theorem delivered (fuel : Nat) (p : P w) : P (deliver fuel w) := by
  induction fuel generalizing w with
  | zero => exact p
  | succ n ih =>
    unfold deliver
    split
    · exact p
    · exact ih (S.notice _ (S.same (setNotices_same _ _) p))

theorem finished (p : P w) : P (finish w) := S.same (refreshLamps_same _) (S.delivered _ p)

/-! ## The hazard unit, the scan unit and the analog watch unit -/

theorem levelReported (old : HazardLevel) (p : P w) : P (reportLevel old w) :=
  S.connReported (S.same (reportHazardDerate_same _) (S.same (balanceHazardReport_same _)
    (S.thermalReported (S.permitReported old p))))

theorem levelChanged (new : HazardLevel) (c : Cause) (p : P w) : P (changeLevel new c w) := by
  unfold changeLevel
  have q := S.same (updateHazard_any
    (fun h => h.changed new c (firstCauseOf w c) (w.loader.cfg.releaseTime * 1000) w.now) w) p
  exact S.levelReported _ (S.hazardPlaced _ (prop_ite (S.same (requestLockout_same _ _) q) q))

theorem rising (l : List Indication) (p : P w) : P (applyRising l w) := prop_ite (S.levelChanged _ _ p) p

theorem setChanged (l : List Indication) (p : P w) : P (changeSet l w) :=
  prop_ite p (S.rising _ (S.same (updateHazard_any _ _) (S.thermalReported (S.same (updateHazard_any _ _) p))))

theorem smoke (l : DetectorLoop) (p : P w) : P (smokeSettles l w) :=
  prop_ite (S.setChanged _ (S.same (updateHazard_any _ _) p)) p
theorem discharged (p : P w) : P (dischargedActive w) := prop_ite (S.levelChanged _ _ p) p

theorem hazardSummarized (s : Summary) (p : P w) : P (hazardSummary s w) := by
  unfold hazardSummary
  split
  · exact S.setChanged _ p
  · exact p

theorem heat (p : P w) : P (heatSamples w) := prop_ite (S.setChanged _ (S.same (updateHazard_any _ _) p)) p

theorem evaluated (p : P w) : P (firstEvaluation w) := by
  have q := S.same (updateHazard_any (fun h => { h with firstEval := none, evaluated := true }) w) p
  exact prop_ite (prop_ite (prop_ite (S.levelChanged _ _ q) q)
    (prop_ite (S.discharged (S.rising _ q)) (S.rising _ q))) p

theorem escalated (p : P w) : P (escalates w) := prop_ite (S.levelChanged _ _ p) p
theorem fellBack (p : P w) : P (fallsBack w) := prop_ite (S.levelChanged _ _ p) p
theorem quietEnded (p : P w) : P (quietEnds w) := prop_ite (S.levelChanged _ _ p) p
theorem countdown (p : P w) : P (countdownEnds w) :=
  prop_ite (prop_ite (S.levelChanged _ _ (S.levelChanged _ _ p)) (S.levelChanged _ _ p)) p

theorem hazardMaintained (p : P w) : P (hazardMaintenanceClear w) :=
  prop_ite p (prop_ite (S.rising _ (S.same (requestLockout_same _ _) (S.same (updateHazard_any _ _) (S.levelChanged _ _ p))))
    (S.same (updateHazard_any _ _) p))

theorem writeEnded (a : Bool) (held : List Byte) (p : P w) : P (endWrite a held w) := by
  unfold endWrite
  split
  · exact prop_ite (S.connRetested (S.same updateHazard_same (S.kept (w := w) rfl p)))
      (S.same (writeFails_same _ _) (S.kept (w := w) rfl p))
  · exact p

theorem visibility (p : P w) : P (reviewVisibility w) :=
  prop_ite p (S.visibilityReported (S.same (chargeVisibility_same _) (S.same (reportVisibilityFactor_same _)
    (S.same (updateScan_same _ _) p))))

theorem summaryRead (s : Summary) (p : P w) : P (readSummary s w) :=
  S.connSummarized (S.same (limitSummary_same _) (S.hazardSummarized s (S.thermalSummarized (S.same (balanceSummary_same _)
    (S.same (chargeSummary_same s _) p)))))

theorem published (p : P w) : P (publish w) := prop_ite (S.summaryRead _ (S.same (updateScan_same _ _) p)) p

theorem roundCompleted (p : P w) : P (completeRound w) := by
  unfold completeRound
  split
  · exact prop_ite (S.same (creditRound_same _ _) (S.same (retestSets_same _) (S.published (S.visibility
      (S.same (updateScan_same _ _) p))))) p
  · exact p

theorem reported (r : ModuleReport) (p : P w) : P (takeReport r w) :=
  prop_ite (S.roundCompleted (S.same (settleWindow_same _ _ _) (S.same (updateModule_same _ _ _) p))) p

theorem windowExpired (n : Nat) (p : P w) : P (expireWindow n w) := by
  have q := S.same (settleWindow_same (n - 1) .missed _) (S.same (updateModule_same (n - 1) ModuleRecord.miss w) p)
  exact prop_ite (S.roundCompleted (S.visibility (prop_ite (S.same (updateBalance_same _ _) q) q))) p

theorem tripCompared (d : Direction) (i : Int) (p : P w) : P (compareTrip d i w) :=
  prop_ite (prop_ite (S.fastTrip d (S.same (updateAnalog_same _ _) p)) (S.fastTripClear d (S.same (updateAnalog_same _ _) p))) p

theorem levelTaken (l : DetectorLoop) (g : GasLevel) (ppm : Nat) (p : P w) : P (takeLevel l g ppm w) :=
  prop_ite p (S.setChanged _ (S.same (updateAnalog_same _ _) p))
theorem levelCompared (l : DetectorLoop) (g : GasLevel) (ppm : Nat) (p : P w) : P (compareLevel l g ppm w) :=
  prop_ite (S.levelTaken l g ppm p) p
theorem faultCompared (l : DetectorLoop) (i : Nat) (p : P w) : P (compareLoopFault l i w) :=
  prop_ite (prop_ite (S.setChanged _ (S.same (updateAnalog_same _ _) p))
    (S.levelTaken _ _ _ (S.levelTaken _ _ _ (S.setChanged _ (S.same (updateAnalog_same _ _) p))))) p

/-! ## The peer table -/

theorem presentTaken (n : Nat) (k : StationKind) (a : Announced) (p : P w) : P (takePresent n k a w) :=
  have q := S.same (reviewMismatch_same _) (S.same (updateEntry_same n (fun e =>
    { e with kind := k, announced := some a, digest := digestStateOf w.loader.digest a.digest, status := none }) w) p)
  prop_ite q (S.routinePlaced _ q)

theorem dispatchTaken (n : Nat) (x : Int) (r : Nat) (m : DispatchMode) (p : P w) : P (takeDispatch n x r m w) := by
  have q := S.same (updatePeers_same (fun q => { q with dispatch := dispatchFrom n x r m }) _) (S.same (updateEntry_same n
    (fun e => { e with dispatch := some ⟨x, r, m, 0⟩ }) w) p)
  exact prop_ite (prop_ite q (S.dispatchReported q)) p

theorem staled (p : P w) : P (dispatchStales w) := prop_ite (S.dispatchReported (S.same (updatePeers_same _ _) p)) p
theorem listened (p : P w) : P (listeningEnds w) := prop_ite (S.routinePlaced _ (S.same (updatePeers_same _ _) p)) p
theorem learned (p : P w) : P (learningEnds w) :=
  prop_ite (S.connRetested (S.askTried (S.same (updatePeers_same _ _) p))) p
theorem statusPlaced (p : P w) : P (statusDue w) := prop_ite (S.routinePlaced _ (S.same (updatePeers_same _ _) p)) p

/-! ## The receiver -/

theorem errorCounted (p : P w) : P (countError w) := prop_ite p (S.changed p)
theorem taken (p : P w) : P (lineTaken w) := S.changed p
theorem freed (p : P w) : P (lineFreed w) := S.changed p
theorem receiverSet (rx : ReceiverState) (b : List Byte) (p : P w) : P (setReceiver rx b w) := S.changed p
theorem discarded (p : P w) : P (discard w) := S.receiverSet _ _ (S.errorCounted p)

theorem duplicateSet (p : P w) : P (setDuplicate w) := prop_ite p (S.permitDuplicated (S.connDuplicated S.storesEmptied))

/-- R131: the one place where the store grows. -/
theorem readAnswered (source kind inst part : Nat) (p : P w) : P (answerRead source kind inst part w) := by
  by_cases room : w.line.replies.length < 4
  · exact S.answered _ room (answerRead_replies room source kind inst part) p
  · rw [answerRead_of_full (Nat.not_lt.1 room)]
    exact S.same updateLoader_served p

theorem routed (n : Nat) (m : Message) (p : P w) : P (route n m w) := by
  cases m with
  | present kind a => exact S.presentTaken n kind a p
  | status kind f level => exact S.same (takeStatus_same _ _ _ _ _) p
  | hazard level f => exact S.same (takeHazard_same _ _ _ _) p
  | dispatch setpoint ramp mode => exact S.dispatchTaken _ _ _ _ p
  | ask tag waits purpose increase => exact prop_ite p (S.askAnswered _ _ _ _ _ p)
  | grant tag => exact prop_ite p (S.same (takeGrant_same _ _ _) p)
  | defer tag => exact prop_ite p (S.same (takeDefer_same _ _ _) p)
  | release tag => exact prop_ite p (S.releaseTaken _ _ p)
  | read record inst part => exact prop_ite p (S.readAnswered _ _ _ _ p)
  | record => exact p

theorem frameTested (f : Frame) (p : P w) : P (testFrame f w) := by
  unfold testFrame
  split
  · exact S.errorCounted p
  · split
    · exact p
    · split
      · exact S.errorCounted p
      · exact prop_ite (S.duplicateSet p) (prop_ite p (prop_ite p (prop_ite p (S.routed _ _ (S.same (heard_same _ _) p)))))

theorem frameCompleted (c : List Byte) (p : P w) : P (completeFrame c w) :=
  have q := S.receiverSet .hunt [] p
  prop_ite q (S.frameTested _ q)

theorem collected (b : List Byte) (p : P w) : P (collect b w) :=
  prop_ite (S.discarded p) (prop_ite (S.frameCompleted b p) (S.receiverSet _ _ p))

theorem character (c : Byte) (p : P w) : P (characterArrives c w) := by
  have q := S.freed p
  unfold characterArrives
  split
  · dsimp only
    split
    · exact prop_ite (S.collected _ q) (S.discarded q)
    · exact S.collected _ q
    · exact q
  · exact p

theorem lastTaken (c : Byte) (p : P w) : P (lastCharacter c w) :=
  prop_ite (S.frameCompleted _ (S.freed p)) p

theorem faulted (f : ReceiveFault) (p : P w) : P (receiveFaults f w) := by
  have q : P (lineAfter f w) := by
    cases f with
    | trailing | badStopBit => exact S.taken p
    | badPreamble | overLong => exact S.freed p
  exact prop_ite (S.discarded q) p

theorem deferred (p : P w) : P (defers w) := by
  have q : P (lineTaken (countDeferral w)) := S.taken (S.changed p)
  exact prop_ite (prop_ite (S.receiverSet _ _ q) (prop_ite (S.discarded q) q)) p

theorem quieted (p : P w) : P (lineQuiet w) := by
  unfold lineQuiet
  split
  · dsimp only
    split
    · exact S.changed p
    · exact S.same (noteHunt_same _) (S.receiverSet _ _ (S.errorCounted (S.changed p)))
    · exact S.same (noteHunt_same _) (S.changed (S.changed p))
  · exact p

theorem windowEnded (p : P w) : P (windowEnds w) :=
  prop_ite (prop_ite (S.askTried (S.changed p)) (S.changed p)) p

theorem transmitted (p : P w) : P (transmits w) := prop_ite (S.started p) p

theorem frameSent (p : P w) : P (frameIsSent w) := by
  have q := S.sendingFinished p
  unfold frameIsSent
  split
  · split
    · exact S.permitSent _ q
    · exact q
  · exact prop_ite (S.same (presentSent_same _) q) q
  · exact q
  · exact q
  · exact p

/-! ## The loader, the key switch and the contacts -/

theorem turned (p : P w) : P (keyTurned w) :=
  have q := S.same (updateKey_same ContactInput.settle w) p
  prop_ite (S.connMaintained (S.hazardMaintained (S.thermalMaintained (S.visibility (S.same (updateScan_same _ _) q))))) q

theorem contact (c : Contact) (p : P w) : P (contactSettles c w) := by
  cases c with
  | callPoint => exact prop_ite (S.setChanged _ (S.same (updateHazard_any _ _) p)) p
  | door => exact prop_ite (S.same (updateHazard_any _ _) p) p
  | hold => exact prop_ite (S.same (updateHazard_any _ _) p) p
  | discharged => exact prop_ite (prop_ite (S.discharged (S.same (updateHazard_any _ _) p)) (S.same (updateHazard_any _ _) p)) p
  | keySwitch => exact prop_ite (S.turned p) p

theorem loaded (a : Bool) (p : P w) : P (loaderFinishes a w) :=
  prop_ite (prop_ite (S.levelChanged _ _ (S.kept (w := w) rfl p)) (S.kept (w := w) rfl p)) p

/-! ## Whole commands -/

/-- A command run to its end keeps what its effect keeps. -/
theorem run {f : Work → Work} {s t : State} (keeps : P (f (Work.start s))) (run : runCommand f s = .next t) :
    P (Work.start t) := by
  have ht : t = (finish (f (Work.start s))).toState := (Host.Outcome.next.inj run).symm
  subst ht
  exact S.kept (w := finish (f (Work.start s))) rfl (S.finished keeps)

/-- A command whose effect leaves the line interface alone. -/
theorem runSame {K : List Block} {f : Work → Work} {s t : State} (p : P (Work.start s)) (h : Same K (Work.start s) (f (Work.start s)))
    (run : runCommand f s = .next t) (hk : Block.line ∉ K := by decide) : P (Work.start t) :=
  S.run (S.same h p hk) run

end ReplyStable

/-- Every command keeps every stable property of the REPLY store. -/
theorem ReplyStable.exec {P : Work → Prop} (S : ReplyStable P) {c : Instr} {s t : State} (p : P (Work.start s))
    (run : Machine.exec c s = .next t) : P (Work.start t) := by
  cases c with
  | powerOn straps => exact S.run (f := powerApplied straps.toNat) (S.emptied rfl) run
  | resetInput => exact S.run (f := resetAsserted) (S.emptied rfl) run
  | resetRelease straps => exact S.run (f := resetReleased straps.toNat) (prop_ite p (S.kept (w := Work.start s) rfl p)) run
  | loaderFinish a => exact S.run (S.loaded a p) run
  | uptimeSecond => exact S.runSame p (secondPasses_same _) run
  | scanRoundStart => exact S.runSame p (startRound_same _) run
  | moduleRequestSent => exact S.runSame p (requestSent_same _) run
  | moduleReport r => exact S.run (S.reported r p) run
  | answerWindowExpiry n => exact S.run (S.windowExpired n p) run
  | currentConversion i => exact S.runSame p (convertCurrent_same i _) run
  | calibrationAtFull => exact S.runSame p (calibrateFull_same _) run
  | gasLoopConversion a b => exact S.runSame p (convertGas_same a b _) run
  | temperatureConversion a b d => exact S.runSame p (convertTemperatures_same a b d _) run
  | fastTripComparator d i => exact S.run (S.tripCompared d i p) run
  | gasLevelComparator l g n => exact S.run (S.levelCompared l g n p) run
  | loopFaultComparator l i => exact S.run (S.faultCompared l i p) run
  | balanceEvaluation => exact S.runSame p (evaluateBalance_same _) run
  | minimumOnTimerExpiry => exact S.runSame p (minOnExpires_same _) run
  | minimumOffTimerExpiry => exact S.runSame p (minOffExpires_same _) run
  | runFeedbackChange a => exact S.run (S.feedback a p) run
  | compressorStartMonitorExpiry => exact S.run (S.monitor p) run
  | tachPulse d => exact S.runSame p (tachPulses_same d _) run
  | tachWindowEnd => exact S.runSame p (tachWindowEnds_same _) run
  | retryTimerExpiry => exact S.run (S.thermalRetried p) run
  | pwmPeriodStart => exact S.runSame p (pwmPeriodStarts_same _) run
  | smokeLoopBandChange l mv => exact S.runSame p (smokeBandMoves_same l mv _) run
  | smokeLoopPersistenceExpiry l => exact S.run (S.smoke l p) run
  | contactTerminalChange k a => exact S.runSame p (terminalChanges_same k a _) run
  | contactInputSettled k => exact S.run (S.contact k p) run
  | heatRiseSample => exact S.run (S.heat p) run
  | hazardFirstEvaluation => exact S.run (S.evaluated p) run
  | escalationTimerExpiry => exact S.run (S.escalated p) run
  | fallBackTimerExpiry => exact S.run (S.fellBack p) run
  | quietTimerExpiry => exact S.run (S.quietEnded p) run
  | countdownEnd => exact S.run (S.countdown p) run
  | dischargeConfirmationExpiry => exact S.runSame p (confirmationExpires_same _) run
  | lockoutWriteStart => exact S.runSame p (startWrite_same _) run
  | lockoutWriteCompletion a held => exact S.run (S.writeEnded a held p) run
  | lockoutRetryExpiry => exact S.runSame p (retryWrite_same _) run
  | maintenanceClear => exact S.run (f := keyTurns) (prop_ite (S.turned p) p) run
  | setpointPeriod => exact S.run (S.periodTimer p) run
  | converterAnswer a => exact S.run (S.answerTaken a p) run
  | gridHealthyDelayReached => exact S.run (S.gridDelay p) run
  | prechargeTimeout => exact S.run (S.prechargeTimer p) run
  | readyTimeout => exact S.run (S.readyTimer p) run
  | rideThroughExpired => exact S.run (S.rideTimer p) run
  | disconnectWaitExpiry => exact S.run (S.disconnectTimer p) run
  | visibilityTimerExpiry => exact S.run (S.visibilityTimer p) run
  | retryDelayExpiry => exact S.run (S.retryTimer p) run
  | receiverIdleReached => exact S.run (S.quieted p) run
  | receiveFault f => exact S.run (S.faulted f p) run
  | frameComplete b => exact S.run (S.lastTaken b p) run
  | transmitStart => exact S.run (S.transmitted p) run
  | deferral => exact S.run (S.deferred p) run
  | collision => exact S.run (S.collided p) run
  | frameSent => exact S.run (S.frameSent p) run
  | errorWindowEnd => exact S.run (S.windowEnded p) run
  | peerAgeingTick => exact S.runSame p (ageEntries_same _) run
  | stalenessTimerExpiry => exact S.run (S.staled p) run
  | listeningTimerExpiry => exact S.run (S.listened p) run
  | learningTimerExpiry => exact S.run (S.learned p) run
  | statusTimerExpiry => exact S.run (S.statusPlaced p) run
  | askOneSecondCheck => exact S.run (S.checkedAtOneSecond p) run
  | askThirtySecondCheck => exact S.run (S.checkedAtThirtySeconds p) run
  | holdLimitExpiry => exact S.run (S.holdLimited p) run
  | backoffExpiry => exact S.run (S.backoffEnded p) run
  | lampFlashTick l => exact S.runSame p (lampToggles_same l _) run
  | characterTaken b => exact S.run (S.character b p) run

/-- A step is a command or a millisecond, which moves no frame. -/
theorem ReplyStable.step {P : Work → Prop} (S : ReplyStable P) {s t : State} (p : P (Work.start s))
    (run : Machine.step s = .next t) : P (Work.start t) := by
  unfold Machine.step at run
  split at run
  next c rest _ => exact S.exec (s := { s with pending := rest }) (S.kept (w := Work.start s) rfl p) run
  next =>
    have ht : t = tick s := (Host.Outcome.next.inj run).symm
    subst ht
    exact S.kept (w := Work.start s) rfl p

/-! ## The bound (R131) -/

/-- R131: the REPLY store holds at most 4 frames. -/
def RepliesFit (w : Work) : Prop := w.line.replies.length ≤ 4

theorem repliesFit_stable : ReplyStable RepliesFit where
  kept same fit := by
    unfold RepliesFit
    rw [same]
    exact fit
  emptied empty := by simp [RepliesFit, empty]
  sent {w w'} tail fit := by
    unfold RepliesFit
    rw [tail, List.length_tail]
    exact (Nat.sub_le _ _).trans fit
  answered f room append _ := by
    unfold RepliesFit
    rw [append, List.length_append]
    exact room

/-- Settles O56: every step keeps the bound, and a READ is answered or dropped by whether the store holds 4 frames. -/
theorem replyStore : Obligations.ReplyStore := by
  refine ⟨fun s t fit run => repliesFit_stable.step (s := s) fit run, fun source record inst part w =>
    ⟨fun room => ⟨answerRead_replies room source record inst part, ?_⟩, fun full => ?_⟩⟩
  · rw [answerRead_of_lt room]
    rfl
  · rw [answerRead_of_full full.ge]
    rfl

end Sys2Proof.Machine
end
